-- ==== Sys2Proof/Word.lean ====
section
/-! DEFINITION. The word types of the 4120: the byte of a frame, the 32-bit word of a recipe bank. -/

namespace Sys2Proof

/-- A byte of a frame, a generation, a syndrome, a port set. -/
abbrev Byte := BitVec 8

/-- A word of a recipe table, a variant, a window's base or mask (02, section 2.3). -/
abbrev Word := BitVec 32

end Sys2Proof
end

