-- ==== Sys2Proof/Config.lean ====
section
/-! DEFINITION. What is fixed for the machine: the limits the spec states as constants, REFCLK,
and the one free value the spec leaves open. -/

namespace Sys2Proof.Config

/-- Unsent notices a transmit side holds at most (R160). -/
abbrev noticeLimit : Nat := 8

/-- Readings a channel's queue holds at most (R70, R128). -/
abbrev readingLimit : Nat := 16

/-- Entries the audio FIFO holds at most (R98). -/
abbrev fifoLimit : Nat := 64

/-- Samples a revolution buffer holds at most (R105, R110). -/
abbrev bufferLimit : Nat := 4096

/-- The tachometer watchdog's time, ms (R97). -/
abbrev watchdogMs : Nat := 2000

/-- The end-reading timer's time, ms (R136). -/
abbrev endReadingMs : Nat := 2000

/-- Bytes a frame's payload holds at most (R158). -/
abbrev payloadLimit : Nat := 64

/-- Reopens of one stage at most (R23). -/
abbrev reopenLimit : Nat := 3

/-- Reasons a holds list holds at most (R4). -/
abbrev holdLimit : Nat := 4

/-- REFCLK in hertz (00, table 2). -/
abbrev refclkHz : Nat := 24576000

/-- FREE VALUE (entry 7). Whether a byte A5h that arrives WITH NO STOP BIT while no frame is being assembled
begins a frame, which its own missing stop bit then discards with the garbled flag set, or is passed over.
R159 does not say; nothing may rest on which it is. -/
opaque unframedStartGarbles : Bool

end Sys2Proof.Config
end

