-- ==== Sys2Proof/Syntax.lean ====
section
/-! DEFINITION. The commands of the 4120: one constructor for each row of spec/opcode_table.json, with the
operands that come from outside the state. A request row has no argument of its own: its arguments are the
payload of the held request the arbiter grants (entry 3). A row that reads the record memory names the words of it
that went wrong before (entry 4). -/

namespace Sys2Proof

/-- A link port, 0 to 7 (R158). -/
abbrev PortId := Fin 8

/-- A byte as the line carries it: its data and whether its stop bit was there (R158, R159). -/
structure LineByte where
  data : Byte
  stop : Bool
  deriving DecidableEq, Repr

/-- The five analyzer channels (R46). -/
inductive ChannelId where
  | ra | rb | n | la | lb
  deriving DecidableEq, Repr

/-- The two run-in channels RA and RB. -/
inductive RunInCh where
  | a | b
  deriving DecidableEq, Repr

/-- The two leak channels LA and LB. -/
inductive LeakCh where
  | a | b
  deriving DecidableEq, Repr

/-- A word of a record that stands in error: its number in the order the words are read, the 8-bit syndrome of its
check, whether more than one of its bits is wrong, and whether the fault is a lasting one that a write does not mend
(R178 to R181; entry 4). -/
structure WordError where
  word : Nat
  syndrome : Byte
  multiple : Bool
  lasting : Bool
  deriving DecidableEq, Repr

/-- The words of one record that stand in error, in the order they are read; none in a sound record (R178). -/
abbrev RecordErrors := List WordError

/-- A word of the record memory goes wrong: the slot whose record it belongs to, one of 48 (R1), and the error it stands
in from then on (R178; entry 4). -/
structure Disturbance where
  slot : Fin 48
  error : WordError
  deriving DecidableEq, Repr

/-- The words of the record memory that have gone wrong since the last item that reads it, in any slots, oldest
first (R178; entry 4). -/
abbrev Disturbances := List Disturbance

/-- The level of the word select AWS during a half (R91). -/
inductive AwsLevel where
  | low | high
  deriving DecidableEq, Repr

/-- The commands: one constructor per row of spec/opcode_table.json, in the table's order. -/
inductive Instr where
  /-- REQUEST_FRAME (R161): a well-framed REQUEST arrives at a port. -/
  | requestFrame (port : PortId) (tag code : Byte) (payload : List Byte)
  /-- READING_FRAME (R165): a well-framed READING of code 0 arrives at a port. -/
  | readingFrame (port : PortId) (tag : Byte) (payload : List Byte)
  /-- GARBLED_FRAME (R159): raw bytes arrive on a port's line. -/
  | garbledFrame (port : PortId) (line : List LineByte)
  /-- INTERBYTE_TIMEOUT (R159): no byte arrives for 2 ms. -/
  | interbyteTimeout (port : PortId)
  /-- FRAME_SENT (R160): the transmit side finishes its oldest frame. -/
  | frameSent (port : PortId)
  /-- RESET_ASSERT (R170). -/
  | resetAssert
  /-- RESET_DEASSERT (R170). -/
  | resetDeassert
  /-- ADMIT (R15). -/
  | admitAxle
  /-- LOOKUP (R17). -/
  | lookup (ds : Disturbances)
  /-- LIST (R19). -/
  | list (ds : Disturbances)
  /-- HOLD_FILE (R20). -/
  | holdFile (ds : Disturbances)
  /-- LIFT_HOLD (R21). -/
  | liftHold (ds : Disturbances)
  /-- REOPEN_STAGE (R23). -/
  | reopenStage (ds : Disturbances)
  /-- CLAIM (R49). -/
  | claim (ds : Disturbances)
  /-- START (R55). -/
  | start (ds : Disturbances)
  /-- ABANDON (R59). -/
  | abandon (ds : Disturbances)
  /-- RESULT (R67). -/
  | result (ds : Disturbances)
  /-- RELEASE (R148). -/
  | release (ds : Disturbances)
  /-- REPORT (R151). -/
  | report (ds : Disturbances)
  /-- FORCE_RETIRE (R154). -/
  | forceRetire (ds : Disturbances)
  /-- SET_STRAY (R156). -/
  | setStray
  /-- OPEN_BANK (R28). -/
  | openBank
  /-- PUBLISH_BANK (R30). -/
  | publishBank
  /-- DISCARD_BANK (R29). -/
  | discardBank
  /-- BANK_STATUS (R37). -/
  | bankStatus
  /-- CURSOR (R39). -/
  | cursor
  /-- DATA (R40). -/
  | data
  /-- READ_DATA (R41). -/
  | readData
  /-- SET_WINDOW (R42). -/
  | setWindow
  /-- SET_DEFAULT (R43). -/
  | setDefault
  /-- READ_WINDOW (R43). -/
  | readWindow
  /-- SET_AUDIO (R103). -/
  | setAudio
  /-- AUDIO_STATUS (R104). -/
  | audioStatus
  /-- SET_ROLE (R162). -/
  | setRole
  /-- SET_ARBITER (R168). -/
  | setArbiter
  /-- SET_PRIORITY (R168). -/
  | setPriority
  /-- STATUS (R166). -/
  | status
  /-- CELL_RESET (R171). -/
  | cellReset (ds : Disturbances)
  /-- READ_CAPTURE (R182). -/
  | readCapture
  /-- CLEAR_CAPTURE (R182). -/
  | clearCapture
  /-- SET_ROUTE (R185). -/
  | setRoute
  /-- ENABLE_SET (R185). -/
  | enableSet
  /-- ENABLE_CLEAR (R185). -/
  | enableClear
  /-- SET_MULTI (R183). -/
  | setMulti
  /-- END_POSTING_APPLIED (R60). -/
  | endPostingApplied (ds : Disturbances)
  /-- LAPSE_POSTING_APPLIED (R54). -/
  | lapsePostingApplied (ds : Disturbances)
  /-- CLAIM_START_EXPIRY (R52). -/
  | claimStartExpiry (channel : ChannelId)
  /-- STAGE_TIME_LIMIT_EXPIRY (R56). -/
  | stageTimeLimitExpiry (channel : ChannelId)
  /-- RUNIN_READING_TAKEN (R82). -/
  | runinReadingTaken (channel : RunInCh)
  /-- SETTLE_TIMER_EXPIRY (R73). -/
  | settleTimerExpiry (channel : RunInCh)
  /-- STEP_TIMER_EXPIRY (R74, R76). -/
  | stepTimerExpiry (channel : RunInCh)
  /-- AUDIO_HALF_END (R90): AWS leaves the level it had, and the bits are ASD at the rising edges of ABCK since
  AWS took that level, first edge first (entry 10). -/
  | audioHalfEnd (level : AwsLevel) (bits : List Bool)
  /-- TACH_EDGE (R95). -/
  | tachEdge
  /-- TACH_WATCHDOG_EXPIRY (R97). -/
  | tachWatchdogExpiry
  /-- REVOLUTION_ENTRY_TAKEN (R107). -/
  | revolutionEntryTaken
  /-- FOLD_END (R112). -/
  | foldEnd
  /-- NOISE_EVALUATION_END (R119). -/
  | noiseEvaluationEnd
  /-- LEAK_READING_TAKEN (R130). -/
  | leakReadingTaken (channel : LeakCh)
  /-- FILL_TIMER_EXPIRY (R131). -/
  | fillTimerExpiry (channel : LeakCh)
  /-- LEAK_SETTLE_TIMER_EXPIRY (R133). -/
  | leakSettleTimerExpiry (channel : LeakCh)
  /-- MEASURE_TIMER_EXPIRY (R136). -/
  | measureTimerExpiry (channel : LeakCh)
  /-- END_READING_TIMER_EXPIRY (R138). -/
  | endReadingTimerExpiry (channel : LeakCh)
  /-- LEAK_EVALUATION_END (R142). -/
  | leakEvaluationEnd (channel : LeakCh)
  deriving DecidableEq, Repr

end Sys2Proof
end

