-- ==== Sys2Proof/WellFormed.lean ====
section
/-! DEFINITION. Which operands a command can carry. exec gives a meaning to every term, well-formed or not; the
checks say which terms describe something that can happen at the part. -/

namespace Sys2Proof

/-- A syndrome of a word in error is 1 to 255 (R181). -/
def WordError.wellFormed (e : WordError) : Bool := e.syndrome != 0

/-- Every word that goes wrong has a syndrome (R181). -/
def disturbancesWellFormed (ds : Disturbances) : Bool := ds.all fun d => d.error.wellFormed

/-- The operands of a command are ones the part can meet: a frame's payload is at most 64 bytes (R158), a raw
arrival holds at least one byte (R159), and every syndrome is 1 to 255 (R181). -/
def Instr.wellFormed : Instr → Bool
  | .requestFrame _ _ _ payload => payload.length ≤ Config.payloadLimit
  | .readingFrame _ _ payload => payload.length ≤ Config.payloadLimit
  | .garbledFrame _ line => !line.isEmpty
  | .lookup ds => disturbancesWellFormed ds
  | .list ds => disturbancesWellFormed ds
  | .holdFile ds => disturbancesWellFormed ds
  | .liftHold ds => disturbancesWellFormed ds
  | .reopenStage ds => disturbancesWellFormed ds
  | .claim ds => disturbancesWellFormed ds
  | .start ds => disturbancesWellFormed ds
  | .abandon ds => disturbancesWellFormed ds
  | .result ds => disturbancesWellFormed ds
  | .release ds => disturbancesWellFormed ds
  | .report ds => disturbancesWellFormed ds
  | .forceRetire ds => disturbancesWellFormed ds
  | .endPostingApplied ds => disturbancesWellFormed ds
  | .lapsePostingApplied ds => disturbancesWellFormed ds
  | .cellReset ds => disturbancesWellFormed ds
  | .interbyteTimeout _ => true
  | .frameSent _ => true
  | .resetAssert => true
  | .resetDeassert => true
  | .admitAxle => true
  | .setStray => true
  | .openBank => true
  | .publishBank => true
  | .discardBank => true
  | .bankStatus => true
  | .cursor => true
  | .data => true
  | .readData => true
  | .setWindow => true
  | .setDefault => true
  | .readWindow => true
  | .setAudio => true
  | .audioStatus => true
  | .setRole => true
  | .setArbiter => true
  | .setPriority => true
  | .status => true
  | .readCapture => true
  | .clearCapture => true
  | .setRoute => true
  | .enableSet => true
  | .enableClear => true
  | .setMulti => true
  | .claimStartExpiry _ => true
  | .stageTimeLimitExpiry _ => true
  | .runinReadingTaken _ => true
  | .settleTimerExpiry _ => true
  | .stepTimerExpiry _ => true
  | .audioHalfEnd _ _ => true
  | .tachEdge => true
  | .tachWatchdogExpiry => true
  | .revolutionEntryTaken => true
  | .foldEnd => true
  | .noiseEvaluationEnd => true
  | .leakReadingTaken _ => true
  | .fillTimerExpiry _ => true
  | .leakSettleTimerExpiry _ => true
  | .measureTimerExpiry _ => true
  | .endReadingTimerExpiry _ => true
  | .leakEvaluationEnd _ => true

end Sys2Proof
end

