-- ==== Sys2Proof/Machine/State.lean ====
section
/-! DEFINITION. The state of the 4120 as plain data, block by block as the block diagram of 00_scope.md names them,
and the state right after a power-on reset. -/

namespace Sys2Proof.Machine

/-! ## Names shared by the blocks -/

/-- Roles of a port (R162). -/
inductive Role where
  | unassigned   -- NONE
  | entry | exit | runinA | runinB | noise | leakA | leakB | supervisor
  deriving DecidableEq, Repr

/-- The three tests of a file (R7). -/
inductive Stage where
  | runin | noise | leak
  deriving DecidableEq, Repr

/-- A place of the file table, 0 to 47 (R1). -/
abbrev SlotId := Fin 48

/-- A recipe bank's number, 0 to 7 (R26). -/
abbrev BankId := Fin 8

/-- A serial: 12 characters, one byte each (R3, R173). -/
abbrev Serial := List Byte

/-- A slot with a generation (R2). -/
structure Handle where
  slot : SlotId
  gen : Byte
  deriving DecidableEq, Repr

/-- The requests of Table 9-2 (R161). -/
inductive Request where
  | admitAxle | lookup | list | holdFile | liftHold | reopenStage | claim | start | abandon | result
  | release | report | forceRetire | setStray | openBank | publishBank | discardBank | bankStatus
  | cursor | data | readData | setWindow | setDefault | readWindow | setAudio | audioStatus | setRole
  | setArbiter | setPriority | status | cellReset | readCapture | clearCapture | setRoute | enableSet
  | enableClear | setMulti
  deriving DecidableEq, Repr

/-- End codes (R57). -/
inductive EndCode where
  | pass | fail | cutShort
  deriving DecidableEq, Repr

/-- Causes of an end (R57, Table 3-8). -/
inductive Cause where
  | none | torque | speed | oilTemp | bearingTemp | sensor | equipment | stepLost | level | band
  | unsteady | format | noTach | grossLeak | decay | overpressure | noReading | station | timeout
  | reset | damaged | forced
  deriving DecidableEq, Repr

/-- A tooth flank (R87, R114). -/
inductive Flank where
  | drive | coast
  deriving DecidableEq, Repr

/-- The worst band of a noise summary (R120). -/
structure WorstBand where
  order : Nat
  flank : Flank
  amplitude : Nat
  deriving DecidableEq, Repr

/-- The summary of an end, by stage (R8, Table 1-4). -/
inductive Summary where
  | runin (torque : Nat) (oil bearing : Int) (steps : Nat)
  | noise (drive coast : Nat) (worst : Option WorstBand)
  | leak (rate decay : Nat) (rise : Bool)
  deriving DecidableEq, Repr

/-- How a stage ended: end code, cause, and the summary, present for PASS and FAIL (R8, R57). -/
structure StageEnd where
  code : EndCode
  cause : Cause
  summary : Option Summary
  deriving DecidableEq, Repr

/-! ## Link ports (chapter 9) -/

/-- Frame kinds (R172). -/
inductive FrameKind where
  | request | answer | reading | directive | notice
  deriving DecidableEq, Repr

/-- A frame: header and payload; its start byte, length and check word follow from them (R158, R172). -/
structure Frame where
  kind : FrameKind
  tag : Byte
  code : Byte
  payload : List Byte
  deriving DecidableEq, Repr

/-- A request a port holds, not yet answered (R161, R163). -/
structure Held where
  tag : Byte
  request : Request
  payload : List Byte
  deriving DecidableEq, Repr

/-- One link port (R158 to R163). `rx` is the frame being assembled: the bytes after its start byte. `tx` is the
transmit side: the frames handed and not yet sent, oldest first. -/
structure Port where
  role : Role
  rx : Option (List Byte)
  garbled : Bool
  held : Option Held
  tx : List Frame
  overrun : Bool
  deriving DecidableEq, Repr

/-! ## Request arbiter (R167) -/

/-- Arbitration schemes (R167). -/
inductive Scheme where
  | rotating | fixed | grouped | portOrder
  deriving DecidableEq, Repr

/-- What a posting says (R53, R57). -/
inductive PostingKind where
  | lapse
  | ended (outcome : StageEnd)
  deriving DecidableEq, Repr

/-- A posting of a channel (R53, R57). -/
structure Posting where
  channel : ChannelId
  handle : Handle
  stage : Stage
  kind : PostingKind
  deriving DecidableEq, Repr

/-- The request arbiter, the internal posting queue with it, oldest first (R167, R169). -/
structure Arbiter where
  scheme : Scheme
  priorities : Vector (Fin 8) 8
  lastGranted : PortId
  postings : List Posting
  deriving DecidableEq, Repr

/-! ## Record engine (chapters 1 and 8) -/

/-- States of a stage record (R7). OPEN is `opened`. -/
inductive StageState where
  | opened | claimed | running | passed | failed | waived
  deriving DecidableEq, Repr

/-- A stage record (R7). -/
structure StageRecord where
  state : StageState
  attempts : Nat
  reopens : Nat
  channel : Option ChannelId
  last : Option StageEnd
  deriving DecidableEq, Repr

/-- The three stage records of a file, kept in the record memory (R178). -/
structure StageRecords where
  runin : StageRecord
  noise : StageRecord
  leak : StageRecord
  deriving DecidableEq, Repr

/-- Verdicts (R6). -/
inductive Verdict where
  | pending | pass | rework | hold
  deriving DecidableEq, Repr

/-- The file record of a live slot (R3 to R7). `records` is absent exactly when the damaged flag is yes: the stage
records of a damaged file are lost, and those of any other are there (R5, R180; entry 9). -/
structure FileRec where
  serial : Serial
  variant : Word
  order : Nat
  bank : BankId
  holds : List Nat
  verdict : Verdict
  records : Option StageRecords
  deriving DecidableEq, Repr

/-- The damaged flag (R5). -/
def FileRec.damaged (f : FileRec) : Bool := f.records.isNone

/-- A slot: its generation, the file in it when it is live (R1), and the words of the record memory it has that stand
in error, in the order they are read (R178; entry 4). -/
structure Slot where
  gen : Byte
  file : Option FileRec
  errors : RecordErrors
  deriving DecidableEq, Repr

/-- The record engine's own state (R1, R9, R11, R13, R156). -/
structure Engine where
  slots : Vector Slot 48
  index : List (Serial × SlotId)
  lineOrder : List SlotId
  admissions : Nat
  strayEnabled : Bool
  deriving DecidableEq, Repr

/-! ## Recipe store (chapter 2) -/

/-- States of a bank; the step and band counts of its publication stand while it is READY (R26, R30). -/
inductive BankState where
  | empty | opened
  | ready (steps bands : Nat)
  deriving DecidableEq, Repr

/-- The five tables of a bank (Table 2-5). -/
inductive Table where
  | general | steps | noise | bands | leak
  deriving DecidableEq, Repr

/-- Number of entries of a table (Table 2-5). -/
def Table.entries : Table → Nat
  | .general => 1
  | .steps => 12
  | .noise => 1
  | .bands => 16
  | .leak => 1

/-- Words of an entry of a table (Table 2-5). -/
def Table.width : Table → Nat
  | .general => 8
  | .steps => 10
  | .noise => 10
  | .bands => 3
  | .leak => 10

/-- The contents of a bank: each table a list of entries, each entry a list of words (Table 2-5). -/
structure Contents where
  general : List (List Word)
  steps : List (List Word)
  noise : List (List Word)
  bands : List (List Word)
  leak : List (List Word)
  deriving DecidableEq, Repr

/-- A table whose every word is 0. -/
def Table.zeros (t : Table) : List (List Word) := List.replicate t.entries (List.replicate t.width 0)

/-- Contents whose every word is 0 (R26, R28). -/
def Contents.zero : Contents where
  general := Table.general.zeros
  steps := Table.steps.zeros
  noise := Table.noise.zeros
  bands := Table.bands.zeros
  leak := Table.leak.zeros

/-- A recipe bank (R26, R27). -/
structure Bank where
  state : BankState
  users : Nat
  contents : Contents
  deriving DecidableEq, Repr

/-- A bank that holds nothing (R26). -/
def Bank.empty : Bank := ⟨.empty, 0, .zero⟩

/-- A variant window (R42). -/
structure Window where
  enable : Bool
  base : Word
  mask : Word
  bank : BankId
  deriving DecidableEq, Repr

/-- Directions of the cursor (R38). -/
inductive Direction where
  | write | read
  deriving DecidableEq, Repr

/-- A set loading cursor (R38). `staging` is the staging entry: in WRITE direction the words received so far, in
READ direction the entry as loaded, of whose words `returned` have been returned. -/
structure Cursor where
  bank : BankId
  table : Table
  index : Nat
  direction : Direction
  staging : List Word
  returned : Nat
  deriving DecidableEq, Repr

/-- The recipe store; `fallback` is the default disposition, absent for REFUSE; an absent cursor is idle
(R26, R38, R42, R43). -/
structure Store where
  banks : Vector Bank 8
  windows : Vector Window 8
  fallback : Option BankId
  cursor : Option Cursor
  deriving DecidableEq, Repr

/-! ## Channels (chapter 3) -/

/-- States of a channel (R47). -/
inductive ChanState where
  | idle | claimed | running | ending
  deriving DecidableEq, Repr

/-- A channel's binding: the handle and stage it works on (R47). -/
structure Binding where
  handle : Handle
  stage : Stage
  deriving DecidableEq, Repr

/-- A channel; a timer is stopped, or running with the milliseconds it was started with (R47; entry 5). -/
structure Channel where
  state : ChanState
  binding : Option Binding
  claimTimer : Option Nat
  stageTimer : Option Nat
  deriving DecidableEq, Repr

/-- A channel at rest (R48). -/
def Channel.rest : Channel := ⟨.idle, none, none, none⟩

/-- The five channels (R46). -/
structure Channels where
  ra : Channel
  rb : Channel
  n : Channel
  la : Channel
  lb : Channel
  deriving DecidableEq, Repr

/-! ## Run-in monitor (chapter 4) -/

/-- One item for each of the five quantities of a run-in reading (R69). -/
structure Five (α : Type) where
  speed : α
  torque : α
  oil : α
  bearing1 : α
  bearing2 : α
  deriving DecidableEq, Repr

/-- The same item for each quantity. -/
def Five.all {α : Type} (x : α) : Five α := ⟨x, x, x, x, x⟩

/-- A run-in reading: its step tag, and each value where it is valid (R69; entry 18). -/
structure RunInReading where
  tag : Nat
  values : Five (Option Int)
  deriving DecidableEq, Repr

/-- The four breach counters (R68, R81). -/
structure Breaches where
  speed : Nat
  torque : Nat
  oil : Nat
  bearing : Nat
  deriving DecidableEq, Repr

/-- The monitor state of a run-in channel (R68, Table 4-1). -/
structure Monitor where
  step : Nat
  stepTimer : Option Nat
  settleTimer : Option Nat
  windowOpen : Bool
  queue : List RunInReading
  held : Five Int
  seen : Five Bool
  invalid : Five Nat
  breach : Breaches
  mismatch : Nat
  warm : Bool
  checked : Bool
  peakTorque : Option Nat
  peakOil : Option Int
  peakBearing : Option Int
  deriving DecidableEq, Repr

/-- The cleared monitor state (R68). -/
def Monitor.cleared : Monitor where
  step := 1
  stepTimer := none
  settleTimer := none
  windowOpen := false
  queue := []
  held := .all 0
  seen := .all false
  invalid := .all 0
  breach := ⟨0, 0, 0, 0⟩
  mismatch := 0
  warm := false
  checked := false
  peakTorque := none
  peakOil := none
  peakBearing := none

/-- The monitors of RA and RB. -/
structure Monitors where
  a : Monitor
  b : Monitor
  deriving DecidableEq, Repr

/-! ## Noise analyzer: inputs (chapter 5) -/

/-- Audio modes (R88). -/
inductive AudioMode where
  | slave | master
  deriving DecidableEq, Repr

/-- Word widths (R88, R92). -/
inductive WordWidth where
  | w16 | w24 | w32
  deriving DecidableEq, Repr

/-- Bits of a word width. -/
def WordWidth.bits : WordWidth → Nat
  | .w16 => 16
  | .w24 => 24
  | .w32 => 32

/-- Framings (R88). -/
inductive Framing where
  | stereo | mono
  deriving DecidableEq, Repr

/-- Sources of a stereo sample (R88, R94). -/
inductive AudioSource where
  | left | right | mean
  deriving DecidableEq, Repr

/-- The audio configuration; an absent width is AUTO; `leftLevel` is the polarity, the level of AWS during the left
half: LOW or HIGH (R88). -/
structure AudioConfig where
  mode : AudioMode
  width : Option WordWidth
  framing : Framing
  leftLevel : AwsLevel
  source : AudioSource
  div : Byte
  pulses : Nat
  deriving DecidableEq, Repr

/-- An entry of the audio FIFO (R98). -/
structure FifoEntry where
  sample : Int
  opens : Bool
  spoils : Bool
  deriving DecidableEq, Repr

/-- The place of the half of the word select in progress: one that began before the last START or SET AUDIO, the right
half that ends the word-select period in progress at that event, or the left or the right half of a later period
(R91, R92; entry 20). -/
inductive HalfPlace where
  | before | restRight | left | right
  deriving DecidableEq, Repr

/-- The input section of channel N (R92, R95, R97, R98). `place` is the place of the half in progress, and `left` is the
left word of the present period, where one was read (R91, R92; entry 20). -/
structure InputSection where
  detected : Option WordWidth
  place : HalfPlace
  left : Option Int
  edges : Nat
  watchdog : Option Nat
  fifo : List FifoEntry
  revolutionOpen : Bool
  markerPending : Bool
  spoilPending : Bool
  deriving DecidableEq, Repr

/-- The stopped input section (R102). -/
def InputSection.stopped : InputSection := ⟨none, .before, none, 0, none, [], false, false, false⟩

/-! ## Noise analyzer (chapter 6) -/

/-- Phases of the noise stage (R105). -/
inductive NoisePhase where
  | settling | drive | flank | coast | evaluate
  deriving DecidableEq, Repr

/-- States of a revolution buffer (R105). -/
inductive BufferState where
  | empty | filling | folding
  deriving DecidableEq, Repr

/-- A revolution buffer, its samples oldest first (R105). -/
structure RevBuffer where
  state : BufferState
  samples : List Int
  spoiled : Bool
  deriving DecidableEq, Repr

/-- An empty revolution buffer (R105). -/
def RevBuffer.clear : RevBuffer := ⟨.empty, [], false⟩

/-- The two revolution buffers' names (R105). -/
inductive BufferId where
  | x | y
  deriving DecidableEq, Repr

/-- A slot of an accumulator bank (R113). -/
structure AccSlot where
  sum : Int
  count : Nat
  deriving DecidableEq, Repr

/-- An accumulator bank: 128 slots and its accepted count (R105, R113). -/
structure AccBank where
  slots : List AccSlot
  accepted : Nat
  deriving DecidableEq, Repr

/-- A cleared accumulator bank (R105). -/
def AccBank.clear : AccBank := ⟨List.replicate 128 ⟨0, 0⟩, 0⟩

/-- The evaluation results: the two levels, and for each band in table order its two amplitudes, drive and coast
(R105, R116, R118). -/
structure NoiseResults where
  driveLevel : Nat
  coastLevel : Nat
  amplitudes : List (Nat × Nat)
  deriving DecidableEq, Repr

/-- The analyzer state of channel N (R105, Table 6-1). -/
structure Analyzer where
  phase : Option NoisePhase
  x : RevBuffer
  y : RevBuffer
  filling : BufferId
  discarding : Bool
  settled : Nat
  drive : AccBank
  coast : AccBank
  rejected : Nat
  results : Option NoiseResults
  deriving DecidableEq, Repr

/-- The cleared analyzer state (R105). -/
def Analyzer.cleared : Analyzer where
  phase := none
  x := .clear
  y := .clear
  filling := .x
  discarding := false
  settled := 0
  drive := .clear
  coast := .clear
  rejected := 0
  results := none

/-! ## Leak analyzer (chapter 7) -/

/-- Phases of the leak test (R126). -/
inductive LeakPhase where
  | fill | settle | measure | evaluate
  deriving DecidableEq, Repr

/-- A pressure in Pa and a housing temperature in 0.01 °C (R127, R134). -/
structure LeakPoint where
  pressure : Nat
  temperature : Int
  deriving DecidableEq, Repr

/-- A leak reading: its values where it is valid, absent where it is invalid (R127; entry 18). -/
abbrev LeakReading := Option LeakPoint

/-- The evaluation results of a leak test (R126). -/
structure LeakResults where
  rate : Nat
  decay : Nat
  rise : Bool
  deriving DecidableEq, Repr

/-- The analyzer state of a leak channel (R126, Table 7-1). -/
structure LeakAnalyzer where
  phase : Option LeakPhase
  queue : List LeakReading
  fillTimer : Option Nat
  settleTimer : Option Nat
  measureTimer : Option Nat
  endTimer : Option Nat
  measureExpired : Bool
  lastFill : Option Nat
  startReading : Option LeakPoint
  endReading : Option LeakPoint
  results : Option LeakResults
  deriving DecidableEq, Repr

/-- The cleared analyzer state (R126). -/
def LeakAnalyzer.cleared : LeakAnalyzer where
  phase := none
  queue := []
  fillTimer := none
  settleTimer := none
  measureTimer := none
  endTimer := none
  measureExpired := false
  lastFill := none
  startReading := none
  endReading := none
  results := none

/-- The leak analyzers of LA and LB. -/
structure LeakAnalyzers where
  a : LeakAnalyzer
  b : LeakAnalyzer
  deriving DecidableEq, Repr

/-! ## Fault capture and notice router (chapter 10) -/

/-- Kinds of an error of the record memory (R181). -/
inductive ErrorKind where
  | correctable | uncorrectable
  deriving DecidableEq, Repr

/-- The item whose read found an error (R181). -/
inductive CaptureItem where
  | request (r : Request)
  | endPosting
  | lapsePosting
  deriving DecidableEq, Repr

/-- The filled capture record (R181). -/
structure Capture where
  kind : ErrorKind
  slot : SlotId
  syndrome : Byte
  item : CaptureItem
  deriving DecidableEq, Repr

/-- Kinds of a notice (R185). -/
inductive NoticeKind where
  | verdict | lapse | fault | stray
  deriving DecidableEq, Repr

/-- A row of the routing table: a port set, bit n for port n, and an enable (R184, R185). -/
structure Route where
  ports : Byte
  enable : Bool
  deriving DecidableEq, Repr

/-- Fault capture and notice router; an absent capture record is unlocked and empty (R181, R183, R184). -/
structure Router where
  capture : Option Capture
  multi : Bool
  verdict : Route
  lapse : Route
  fault : Route
  stray : Route
  deriving DecidableEq, Repr

/-! ## The machine -/

/-- The state of the 4120, and the queue of the commands that wait, oldest first. -/
structure State where
  pending : List Instr
  resetLow : Bool
  ports : Vector Port 8
  arbiter : Arbiter
  engine : Engine
  store : Store
  chans : Channels
  monitors : Monitors
  audio : AudioConfig
  input : InputSection
  noise : Analyzer
  leaks : LeakAnalyzers
  router : Router
  deriving DecidableEq, Repr

/-- Faults: none. Nothing stops the 4120: an error is an answer, a flag, a capture record or the end of a stage
(INVENTORY.md, Faults). -/
inductive Fault where
  deriving DecidableEq, Repr

/-- Refusals. -/
inductive Refusal where
  /-- Raised by an arm of exec whose command has no meaning yet; safe. No arm raises it. -/
  | notModelled (mnemonic : String)
  deriving DecidableEq, Repr

/-- The outcome of a step. -/
abbrev Outcome := Host.Outcome State Fault Refusal

/-- A port at power-on with its role (R159, R160, R162, R170). -/
def Port.powerOn (role : Role) : Port := ⟨role, none, false, none, [], false⟩

/-- Power-on routing of a notice kind: port 0, enabled (R184). -/
def Route.powerOn : Route := ⟨1, true⟩

/-- The audio configuration at power-on (R88, Table 5-1). -/
def AudioConfig.powerOn : AudioConfig := ⟨.slave, none, .stereo, .low, .left, 3, 60⟩

/-- Every block at its power-on state (R170), with the given queue and level of RESET#. -/
def State.powerOn (pending : List Instr) (resetLow : Bool) : State where
  pending := pending
  resetLow := resetLow
  ports := (Vector.replicate 8 (.powerOn .unassigned)).set 0 (.powerOn .supervisor)
  arbiter := ⟨.rotating, .replicate 8 0, 7, []⟩
  engine := ⟨.replicate 48 ⟨0, none, []⟩, [], [], 0, true⟩
  store := ⟨.replicate 8 .empty, .replicate 8 ⟨false, 0, 0, 0⟩, none, none⟩
  chans := ⟨.rest, .rest, .rest, .rest, .rest⟩
  monitors := ⟨.cleared, .cleared⟩
  audio := .powerOn
  input := .stopped
  noise := .cleared
  leaks := ⟨.cleared, .cleared⟩
  router := ⟨none, false, .powerOn, .powerOn, .powerOn, .powerOn⟩

/-- The machine right after reset: the power-on state, RESET# high again, no command waiting (R170). -/
def State.reset : State := .powerOn [] false

end Sys2Proof.Machine
end

