-- ==== Sys2Proof/Machine/Arith.lean ====
section
/-! DEFINITION. The arithmetic of the 4120: byte strings and numbers (R173), the check word (R158), rounding and
isqrt (00, Rounding and integer functions), and the sine table (R117). -/

namespace Sys2Proof.Machine

/-! ## Bytes and numbers, most significant byte first (R173) -/

/-- A number as `n` bytes; of a number too large for them, its low `n` bytes. -/
def bytesOf : Nat → Nat → List Byte
  | 0, _ => []
  | n + 1, v => BitVec.ofNat 8 (v / 256 ^ n) :: bytesOf n v

/-- A signed number as `n` bytes, in two's complement (R173). -/
def bytesOfInt (n : Nat) (v : Int) : List Byte := bytesOf n (v % 256 ^ n).toNat

/-- The number a byte string holds. -/
def natOf (bs : List Byte) : Nat := bs.foldl (fun acc b => acc * 256 + b.toNat) 0

/-- The signed number a byte string holds in two's complement (R173). -/
def intOf (bs : List Byte) : Int :=
  if 2 * natOf bs < 256 ^ bs.length then natOf bs else (natOf bs : Int) - 256 ^ bs.length

/-- The `n` bytes of a payload that begin at `off`. -/
def field (bs : List Byte) (off n : Nat) : List Byte := (bs.drop off).take n

/-- One byte of a payload, as a number. -/
def byteAt (bs : List Byte) (off : Nat) : Nat := (bs.getD off 0).toNat

/-- The 32-bit words of a payload (R173). -/
def wordsOf : List Byte → List Word
  | b0 :: b1 :: b2 :: b3 :: rest => BitVec.ofNat 32 (natOf [b0, b1, b2, b3]) :: wordsOf rest
  | _ => []

/-- A word as 4 bytes. -/
def bytesOfWord (w : Word) : List Byte := bytesOf 4 w.toNat

/-! ## The check word (R158) -/

/-- One bit of the CRC-16, polynomial 1021h. -/
def crcBit (c : BitVec 16) : BitVec 16 := if c.msb then (c <<< 1) ^^^ 0x1021#16 else c <<< 1

/-- `n` bits of the CRC-16. -/
def crcBits : Nat → BitVec 16 → BitVec 16
  | 0, c => c
  | n + 1, c => crcBits n (crcBit c)

/-- One byte, most significant bit first, into the CRC-16. -/
def crcByte (c : BitVec 16) (b : Byte) : BitVec 16 := crcBits 8 (c ^^^ (b.zeroExtend 16 <<< 8))

/-- The CRC-16 of a byte string, initial value FFFFh (R158). -/
def crc16 (bs : List Byte) : BitVec 16 := bs.foldl crcByte 0xFFFF#16

/-- The two bytes of the check word, most significant first (R158). -/
def checkBytes (bs : List Byte) : List Byte := bytesOf 2 (crc16 bs).toNat

/-! ## Rounding (00, Rounding and integer functions) -/

/-- The nearest integer to a / b, ties away from zero. -/
def roundDiv (a : Int) (b : Nat) : Int :=
  if a < 0 then -(((2 * a.natAbs + b) / (2 * b) : Nat) : Int) else (((2 * a.natAbs + b) / (2 * b) : Nat) : Int)

/-- The bits of an integer square root from bit `n - 1` down, added to the root `r` found so far. -/
def isqrtBits (x : Nat) : Nat → Nat → Nat
  | 0, r => r
  | n + 1, r => if (r + 2 ^ n) * (r + 2 ^ n) ≤ x then isqrtBits x n (r + 2 ^ n) else isqrtBits x n r

/-- The largest integer whose square does not exceed x. -/
def isqrt (x : Nat) : Nat := isqrtBits x (x.log2 / 2 + 1) 0

/-! ## The sine table (R117) -/

/-- T(0) to T(32): 32,768 sin(2πi / 128) rounded to nearest. -/
def sineQuarter : List Nat :=
  [0, 1608, 3212, 4808, 6393, 7962, 9512, 11039, 12540, 14010, 15447, 16846, 18205, 19520, 20788, 22006, 23170] ++
  [24279, 25330, 26320, 27246, 28106, 28899, 29622, 30274, 30853, 31357, 31786, 32138, 32413, 32610, 32729, 32768]

/-- T(i), the index taken mod 128, by the symmetries T(64 - i) = T(i) and T(64 + i) = -T(i) (R117). -/
def sine (i : Nat) : Int :=
  let j := i % 128
  if j ≤ 32 then (sineQuarter.getD j 0 : Nat)
  else if j ≤ 64 then (sineQuarter.getD (64 - j) 0 : Nat)
  else if j ≤ 96 then -(sineQuarter.getD (j - 64) 0 : Nat)
  else -(sineQuarter.getD (128 - j) 0 : Nat)

/-- The cosine of index j is T((j + 32) mod 128) (R117). -/
def cosine (j : Nat) : Int := sine (j + 32)

/-! ## MASTER mode's clocks (R89) -/

/-- The bit clock in MASTER mode, hertz, whole part (R89). -/
def masterBitClock (div : Nat) : Nat := Config.refclkHz / (2 * (div + 1))

/-- Frames per second in MASTER mode, whole part (R89). -/
def masterFrameRate (div : Nat) : Nat := Config.refclkHz / (128 * (div + 1))

end Sys2Proof.Machine
end

