-- ==== Sys2Proof/Machine/Operands.lean ====
section
/-! DEFINITION. The operand forms of the 4120: the request table (R161), the encodings of frames, payload fields and
readings (R172 to R177, R182, R185), and the named fields of the recipe tables (R32 to R36). -/

namespace Sys2Proof

/-! ## Channels among the five, and the bytes of the operands' own types -/

/-- A channel's byte (R173). -/
def ChannelId.byte : ChannelId → Byte
  | .ra => 1
  | .rb => 2
  | .n => 3
  | .la => 4
  | .lb => 5

/-- A polarity's byte (R173). -/
def AwsLevel.byte : AwsLevel → Byte
  | .low => 0
  | .high => 1

/-- The role that drives a channel (R46). -/
def ChannelId.role : ChannelId → Machine.Role
  | .ra => .runinA
  | .rb => .runinB
  | .n => .noise
  | .la => .leakA
  | .lb => .leakB

/-- The stage type of a channel (R46). -/
def ChannelId.stage : ChannelId → Machine.Stage
  | .ra | .rb => .runin
  | .n => .noise
  | .la | .lb => .leak

/-- A run-in channel among the five. -/
def RunInCh.id : RunInCh → ChannelId
  | .a => .ra
  | .b => .rb

/-- A leak channel among the five. -/
def LeakCh.id : LeakCh → ChannelId
  | .a => .la
  | .b => .lb

end Sys2Proof

namespace Sys2Proof.Machine

/-! ## Requests (R161, Table 9-2) -/

/-- The code of a request (Table 9-2). -/
def Request.code : Request → Nat
  | .admitAxle => 1
  | .lookup => 2
  | .list => 3
  | .holdFile => 4
  | .liftHold => 5
  | .reopenStage => 6
  | .claim => 7
  | .start => 8
  | .abandon => 9
  | .result => 10
  | .release => 11
  | .report => 12
  | .forceRetire => 13
  | .setStray => 14
  | .openBank => 15
  | .publishBank => 16
  | .discardBank => 17
  | .bankStatus => 18
  | .cursor => 19
  | .data => 20
  | .readData => 21
  | .setWindow => 22
  | .setDefault => 23
  | .readWindow => 24
  | .setAudio => 25
  | .audioStatus => 26
  | .setRole => 27
  | .setArbiter => 28
  | .setPriority => 29
  | .status => 30
  | .cellReset => 31
  | .readCapture => 32
  | .clearCapture => 33
  | .setRoute => 34
  | .enableSet => 35
  | .enableClear => 36
  | .setMulti => 37

/-- The requests in the order of their codes (Table 9-2). -/
def Request.table : List Request :=
  [.admitAxle, .lookup, .list, .holdFile, .liftHold, .reopenStage, .claim, .start, .abandon, .result, .release, .report,
    .forceRetire, .setStray, .openBank, .publishBank, .discardBank, .bankStatus, .cursor, .data, .readData,
    .setWindow, .setDefault, .readWindow, .setAudio, .audioStatus, .setRole, .setArbiter, .setPriority, .status,
    .cellReset, .readCapture, .clearCapture, .setRoute, .enableSet, .enableClear, .setMulti]

/-- The request a code names, if it names one (R161, check 2). -/
def Request.ofCode (code : Byte) : Option Request := Request.table.find? fun r => r.code == code.toNat

/-- Whether a payload of `n` bytes has the request's length (R161, check 4). -/
def Request.lengthOk (r : Request) (n : Nat) : Bool :=
  match r with
  | .admitAxle => n == 16
  | .lookup | .release | .report | .forceRetire => n == 12
  | .holdFile | .liftHold | .reopenStage | .claim => n == 13
  | .start | .abandon | .setRole | .setPriority | .setRoute => n == 2
  | .result => n == 3
  | .list | .setStray | .openBank | .publishBank | .discardBank | .bankStatus | .readData | .setDefault
  | .readWindow | .setArbiter | .enableSet | .enableClear | .setMulti => n == 1
  | .cursor => n == 4
  | .data => 4 ≤ n && n ≤ 60 && n % 4 == 0
  | .setWindow => n == 11
  | .setAudio => n == 7
  | .audioStatus | .status | .cellReset | .readCapture | .clearCapture => n == 0

/-- Whether a role is a station role that has a channel (R46). -/
def Role.isTester : Role → Bool
  | .runinA | .runinB | .noise | .leakA | .leakB => true
  | .unassigned | .entry | .exit | .supervisor => false

/-- Whether a role is permitted a request (R161, check 3). -/
def Request.permitted (r : Request) (role : Role) : Bool :=
  role == .supervisor ||
  match r with
  | .admitAxle => role == .entry
  | .lookup => role == .entry || role == .exit || role.isTester
  | .claim | .start | .abandon | .result => role.isTester
  | .release | .report => role == .exit
  | _ => false

/-! ## Frames (R158, R172) -/

/-- The byte of a frame kind (R172). -/
def FrameKind.byte : FrameKind → Byte
  | .request => 1
  | .answer => 2
  | .reading => 3
  | .directive => 4
  | .notice => 5

/-- The kind of a frame the 4120 takes: REQUEST or READING (R159). -/
def FrameKind.taken (b : Byte) : Option FrameKind :=
  if b = 1 then some .request else if b = 3 then some .reading else none

/-- Header and payload (R158). -/
def Frame.body (f : Frame) : List Byte :=
  [f.kind.byte, f.tag, BitVec.ofNat 8 f.payload.length, f.code] ++ f.payload

/-- The bytes of a frame on the line: start byte, header, payload, check word (R158). -/
def Frame.wire (f : Frame) : List Byte := 0xA5 :: (f.body ++ checkBytes f.body)

/-- A frame's bytes, each with its stop bit. -/
def Frame.line (f : Frame) : List LineByte := f.wire.map fun b => ⟨b, true⟩

/-! ## Answers (R172, Table 9-7) -/

/-- Answer codes (Table 9-7). -/
inductive AnswerCode where
  | done | busy | role | malformed | range | unknown | exist | full | noRecipe | notReady | held | damaged
  | state | active | order | channel | stale | limit | inUse | inTest | mode
  deriving DecidableEq, Repr

/-- The byte of an answer code (Table 9-7). -/
def AnswerCode.byte : AnswerCode → Byte
  | .done => 0
  | .busy => 1
  | .role => 2
  | .malformed => 3
  | .range => 4
  | .unknown => 5
  | .exist => 6
  | .full => 7
  | .noRecipe => 8
  | .notReady => 9
  | .held => 10
  | .damaged => 11
  | .state => 12
  | .active => 13
  | .order => 14
  | .channel => 15
  | .stale => 16
  | .limit => 17
  | .inUse => 18
  | .inTest => 19
  | .mode => 20

/-- Directive codes (R172). -/
inductive Directive where
  | step | flank | vent | ended
  deriving DecidableEq, Repr

/-- The byte of a directive code (R172). -/
def Directive.byte : Directive → Byte
  | .step => 1
  | .flank => 2
  | .vent => 3
  | .ended => 4

/-! ## Enumerated values in payloads (R173, R177, R182, R185) -/

/-- A role's byte (R173). -/
def Role.byte : Role → Byte
  | .unassigned => 0
  | .entry => 1
  | .exit => 2
  | .runinA => 3
  | .runinB => 4
  | .noise => 5
  | .leakA => 6
  | .leakB => 7
  | .supervisor => 8

/-- The role a byte names (R173). -/
def Role.ofByte (b : Byte) : Option Role :=
  [Role.unassigned, .entry, .exit, .runinA, .runinB, .noise, .leakA, .leakB, .supervisor].find? fun r => r.byte == b

/-- A stage's byte (R173). -/
def Stage.byte : Stage → Byte
  | .runin => 1
  | .noise => 2
  | .leak => 3

/-- The stage a byte names (R173). -/
def Stage.ofByte (b : Byte) : Option Stage := [Stage.runin, .noise, .leak].find? fun t => t.byte == b

/-- A stage state's byte (R173). -/
def StageState.byte : StageState → Byte
  | .opened => 1
  | .claimed => 2
  | .running => 3
  | .passed => 4
  | .failed => 5
  | .waived => 6

/-- The byte of a channel field, 0 where it is absent (R173). -/
def channelByte : Option ChannelId → Byte
  | none => 0
  | some c => c.byte

/-- A verdict's byte (R173). -/
def Verdict.byte : Verdict → Byte
  | .pending => 1
  | .pass => 2
  | .rework => 3
  | .hold => 4

/-- The byte of the report verdict formed from a stored verdict: PASS, REWORK, or INCOMPLETE (R149, R173). -/
def Verdict.reportByte : Verdict → Byte
  | .pass => 2
  | .rework => 3
  | .pending => 5
  | .hold => 5

/-- An end code's number (R173). -/
def EndCode.num : EndCode → Nat
  | .pass => 1
  | .fail => 2
  | .cutShort => 3

/-- A cause's number (R173). -/
def Cause.num : Cause → Nat
  | .none => 0
  | .torque => 1
  | .speed => 2
  | .oilTemp => 3
  | .bearingTemp => 4
  | .sensor => 5
  | .equipment => 6
  | .stepLost => 7
  | .level => 8
  | .band => 9
  | .unsteady => 10
  | .format => 11
  | .noTach => 12
  | .grossLeak => 13
  | .decay => 14
  | .overpressure => 15
  | .noReading => 16
  | .station => 17
  | .timeout => 18
  | .reset => 19
  | .damaged => 20
  | .forced => 21

/-- A flank's byte (R173). -/
def Flank.byte : Flank → Byte
  | .drive => 1
  | .coast => 2

/-- A scheme's byte (R173). -/
def Scheme.byte : Scheme → Byte
  | .rotating => 0
  | .fixed => 1
  | .grouped => 2
  | .portOrder => 3

/-- The scheme a byte names (R173). -/
def Scheme.ofByte (b : Byte) : Option Scheme :=
  [Scheme.rotating, .fixed, .grouped, .portOrder].find? fun x => x.byte == b

/-- A bank table's byte (R173). -/
def Table.byte : Table → Byte
  | .general => 0
  | .steps => 1
  | .noise => 2
  | .bands => 3
  | .leak => 4

/-- The bank table a byte names (R173). -/
def Table.ofByte (b : Byte) : Option Table :=
  [Table.general, .steps, .noise, .bands, .leak].find? fun t => t.byte == b

/-- The cursor direction a byte names (R173). -/
def Direction.ofByte (b : Byte) : Option Direction :=
  if b = 0 then some .write else if b = 1 then some .read else none

/-- The setting a byte names: 0 off or DISABLED, 1 on or ENABLED (R173). -/
def settingOf (b : Byte) : Option Bool := if b = 0 then some false else if b = 1 then some true else none

/-- The byte of a setting or a yes-or-no field (R173). -/
def boolByte (b : Bool) : Byte := if b then 1 else 0

/-- A number below 8, as a port or a bank. -/
def below8 (n : Nat) : Option (Fin 8) := if h : n < 8 then some ⟨n, h⟩ else none

/-- A channel state's byte (R177). -/
def ChanState.byte : ChanState → Byte
  | .idle => 0
  | .claimed => 1
  | .running => 2
  | .ending => 3

/-- A bank state's byte (R177). -/
def BankState.byte : BankState → Byte
  | .empty => 0
  | .opened => 1
  | .ready _ _ => 2

/-- The disposition byte: a bank, or FFh for REFUSE (R173). -/
def dispositionByte : Option BankId → Byte
  | some b => BitVec.ofNat 8 b.val
  | none => 0xFF

/-- The audio mode a byte names (R173). -/
def AudioMode.ofByte (b : Byte) : Option AudioMode :=
  if b = 0 then some .slave else if b = 1 then some .master else none

/-- An audio mode's byte (R173). -/
def AudioMode.byte : AudioMode → Byte
  | .slave => 0
  | .master => 1

/-- The width setting a byte names, AUTO being absent inside (R173). -/
def widthOfByte (b : Byte) : Option (Option WordWidth) :=
  if b = 0 then some none
  else if b = 16 then some (some .w16)
  else if b = 24 then some (some .w24)
  else if b = 32 then some (some .w32)
  else none

/-- The byte of a width: 0 for AUTO or none, else the width (R173, R177). -/
def widthByte : Option WordWidth → Byte
  | none => 0
  | some w => BitVec.ofNat 8 w.bits

/-- The framing a byte names (R173). -/
def Framing.ofByte (b : Byte) : Option Framing :=
  if b = 0 then some .stereo else if b = 1 then some .mono else none

/-- A framing's byte (R173). -/
def Framing.byte : Framing → Byte
  | .stereo => 0
  | .mono => 1

/-- The polarity a byte names, as the level of the left half: 0 LOW, 1 HIGH (R88, R173). -/
def levelOfByte (b : Byte) : Option AwsLevel := if b = 0 then some .low else if b = 1 then some .high else none

/-- The source a byte names (R173). -/
def AudioSource.ofByte (b : Byte) : Option AudioSource :=
  if b = 0 then some .left else if b = 1 then some .right else if b = 2 then some .mean else none

/-- A source's byte (R173). -/
def AudioSource.byte : AudioSource → Byte
  | .left => 0
  | .right => 1
  | .mean => 2

/-- The notice kind a byte names (R185). -/
def NoticeKind.ofByte (b : Byte) : Option NoticeKind :=
  if b = 1 then some .verdict
  else if b = 2 then some .lapse
  else if b = 3 then some .fault
  else if b = 4 then some .stray
  else none

/-- A notice kind's byte (R185). -/
def NoticeKind.byte : NoticeKind → Byte
  | .verdict => 1
  | .lapse => 2
  | .fault => 3
  | .stray => 4

/-- An error kind's byte (R182). -/
def ErrorKind.byte : ErrorKind → Byte
  | .correctable => 1
  | .uncorrectable => 2

/-- A capture item's byte (R182). -/
def CaptureItem.byte : CaptureItem → Byte
  | .request r => BitVec.ofNat 8 r.code
  | .endPosting => 64
  | .lapsePosting => 65

/-- A handle's two bytes (R173). -/
def Handle.bytes (h : Handle) : List Byte := [BitVec.ofNat 8 h.slot.val, h.gen]

/-- Whether a byte is the code of a digit or a capital letter (R173). -/
def isSerialByte (b : Byte) : Bool :=
  (0x30 ≤ b.toNat && b.toNat ≤ 0x39) || (0x41 ≤ b.toNat && b.toNat ≤ 0x5A)

/-! ## Readings (R174, R69, R127) -/

/-- A value that is valid: flagged valid and within its range (R69, R127). -/
def validValue (flag : Bool) (lo hi v : Int) : Option Int := if flag && lo ≤ v && v ≤ hi then some v else none

/-- A RUNIN reading from its 12 bytes (R174, R69). -/
def runInReadingOf (bs : List Byte) : RunInReading :=
  let flag := fun i => (byteAt bs 1).testBit i
  { tag := byteAt bs 0
    values :=
      { speed := validValue (flag 0) 0 3000 (natOf (field bs 2 2))
        torque := validValue (flag 1) (-30000) 30000 (intOf (field bs 4 2))
        oil := validValue (flag 2) (-400) 2500 (intOf (field bs 6 2))
        bearing1 := validValue (flag 3) (-400) 2500 (intOf (field bs 8 2))
        bearing2 := validValue (flag 4) (-400) 2500 (intOf (field bs 10 2)) } }

/-- A LEAK reading from its 7 bytes: valid when its flag says so and both values lie in range (R174, R127). -/
def leakReadingOf (bs : List Byte) : LeakReading :=
  let flag := (byteAt bs 0).testBit 0
  match validValue flag 0 1000000 (intOf (field bs 1 4)), validValue flag (-4000) 15000 (intOf (field bs 5 2)) with
  | some p, some t => some ⟨p.toNat, t⟩
  | _, _ => none

/-- The reading length of a role, for a role that has one (R165). -/
def Role.readingLength : Role → Option Nat
  | .runinA | .runinB => some 12
  | .leakA | .leakB => some 7
  | .unassigned | .entry | .exit | .noise | .supervisor => none

/-! ## Channels, roles and stages (R46) -/

/-- The channel a role drives (R46, Table 3-1). -/
def Role.channel : Role → Option ChannelId
  | .runinA => some .ra
  | .runinB => some .rb
  | .noise => some .n
  | .leakA => some .la
  | .leakB => some .lb
  | .unassigned | .entry | .exit | .supervisor => none

/-! ## Recipe tables (R32 to R36) -/

/-- The entries of a table (Table 2-5). -/
def Contents.table (c : Contents) : Table → List (List Word)
  | .general => c.general
  | .steps => c.steps
  | .noise => c.noise
  | .bands => c.bands
  | .leak => c.leak

/-- The contents with one table replaced. -/
def Contents.setTable (c : Contents) (t : Table) (es : List (List Word)) : Contents :=
  match t with
  | .general => { c with general := es }
  | .steps => { c with steps := es }
  | .noise => { c with noise := es }
  | .bands => { c with bands := es }
  | .leak => { c with leak := es }

/-- The words of one entry. -/
def Contents.entry (c : Contents) (t : Table) (i : Nat) : List Word := (c.table t).getD i []

/-- The contents with one entry written (R40). -/
def Contents.setEntry (c : Contents) (t : Table) (i : Nat) (e : List Word) : Contents :=
  c.setTable t ((c.table t).set i e)

/-- Word `j` of an entry, unsigned. -/
def wordAt (e : List Word) (j : Nat) : Nat := (e.getD j 0).toNat

/-- Word `j` of an entry, signed (02, section 2.3). -/
def signedAt (e : List Word) (j : Nat) : Int := (e.getD j 0).toInt

/-- Byte `k` of a word, byte 0 the least significant (02, section 2.3). -/
def wordByte (w k : Nat) : Nat := w / 256 ^ k % 256

/-- The stage's bit in a required-stage set (R32). -/
def Stage.bit : Stage → Nat
  | .runin => 0
  | .noise => 1
  | .leak => 2

/-- Whether the required-stage set holds a stage (R32, word 0). -/
def Contents.requires (c : Contents) (t : Stage) : Bool := (wordAt (c.entry .general 0) 0).testBit t.bit

/-- The retry limit of a stage (R32, words 1 to 3). -/
def Contents.retryLimit (c : Contents) (t : Stage) : Nat := wordAt (c.entry .general 0) (1 + t.bit)

/-- The claim start limit code (R32, word 4, byte 0). -/
def Contents.claimCode (c : Contents) : Nat := wordByte (wordAt (c.entry .general 0) 4) 0

/-- The breach persistence (R32, word 4, byte 1). -/
def Contents.persistence (c : Contents) : Nat := wordByte (wordAt (c.entry .general 0) 4) 1

/-- The invalid limit (R32, word 4, byte 2). -/
def Contents.invalidLimit (c : Contents) : Nat := wordByte (wordAt (c.entry .general 0) 4) 2

/-- The stage time limit in ms: words 5 to 7 are seconds (R32, R55). -/
def Contents.stageLimitMs (c : Contents) (t : Stage) : Nat := wordAt (c.entry .general 0) (5 + t.bit) * 1000

/-- The claim start limit in ms, absent for code 7 (Table 2-7). -/
def claimLimitMs : Nat → Option Nat
  | 0 => some 2000
  | 1 => some 5000
  | 2 => some 10000
  | 3 => some 20000
  | 4 => some 30000
  | 5 => some 60000
  | 6 => some 120000
  | _ => none

/-- The fields of a STEPS entry (R33, Table 2-8). -/
structure StepFields where
  direction : Nat
  speed : Nat
  tolerance : Nat
  torque : Int
  lower : Int
  upper : Int
  oilMax : Nat
  bearingMax : Nat
  durationS : Nat
  settleMs : Nat
  warm : Nat
  deriving DecidableEq, Repr

/-- The fields of a STEPS entry's words (R33). -/
def stepFieldsOf (e : List Word) : StepFields where
  direction := wordAt e 0
  speed := wordAt e 1
  tolerance := wordAt e 2
  torque := signedAt e 3
  lower := signedAt e 4
  upper := signedAt e 5
  oilMax := wordAt e 6
  bearingMax := wordAt e 7
  durationS := wordAt e 8 % 65536
  settleMs := wordAt e 8 / 65536
  warm := wordAt e 9

/-- The fields of step k, governed by STEPS entry k - 1 (R68). -/
def Contents.step (c : Contents) (k : Nat) : StepFields := stepFieldsOf (c.entry .steps (k - 1))

/-- A step setpoint block, 21 bytes (R177). -/
def StepFields.bytes (f : StepFields) : List Byte :=
  bytesOf 1 f.direction ++ bytesOf 2 f.speed ++ bytesOf 2 f.tolerance ++ bytesOfInt 2 f.torque ++
  bytesOfInt 2 f.lower ++ bytesOfInt 2 f.upper ++ bytesOf 2 f.oilMax ++ bytesOf 2 f.bearingMax ++
  bytesOf 2 f.durationS ++ bytesOf 2 f.settleMs ++ bytesOf 2 f.warm

/-- The fields of the NOISE entry (R34, Table 2-9). -/
structure NoiseFields where
  speed : Nat
  lmin : Nat
  lmax : Nat
  settle : Nat
  driveTarget : Nat
  flankSettle : Nat
  coastTarget : Nat
  rejectLimit : Nat
  driveLimit : Nat
  coastLimit : Nat
  deriving DecidableEq, Repr

/-- The NOISE entry of a bank (R34). -/
def Contents.noiseFields (c : Contents) : NoiseFields :=
  let e := c.entry .noise 0
  { speed := wordAt e 0
    lmin := wordAt e 1
    lmax := wordAt e 2
    settle := wordAt e 3
    driveTarget := wordAt e 4
    flankSettle := wordAt e 5
    coastTarget := wordAt e 6
    rejectLimit := wordAt e 7
    driveLimit := wordAt e 8
    coastLimit := wordAt e 9 }

/-- A band of the order analysis (R35, Table 2-10). -/
structure BandFields where
  order : Nat
  driveLimit : Nat
  coastLimit : Nat
  deriving DecidableEq, Repr

/-- A band from a BANDS entry's words (R35). -/
def bandFieldsOf (e : List Word) : BandFields := ⟨wordAt e 0, wordAt e 1, wordAt e 2⟩

/-- The fields of the LEAK entry (R36, Table 2-11). -/
structure LeakFields where
  target : Nat
  tolerance : Nat
  fillMs : Nat
  settleMs : Nat
  dropMax : Nat
  measureMs : Nat
  volume : Nat
  leakLimit : Nat
  margin : Nat
  deriving DecidableEq, Repr

/-- The LEAK entry of a bank (R36). -/
def Contents.leakFields (c : Contents) : LeakFields :=
  let e := c.entry .leak 0
  { target := wordAt e 0
    tolerance := wordAt e 1
    fillMs := wordAt e 2
    settleMs := wordAt e 3
    dropMax := wordAt e 4
    measureMs := wordAt e 5
    volume := wordAt e 6
    leakLimit := wordAt e 7
    margin := wordAt e 8 }

/-- The step count of a READY bank, 0 of any other (R30). -/
def Bank.stepCount (b : Bank) : Nat :=
  match b.state with
  | .ready n _ => n
  | .empty | .opened => 0

/-- The band count of a READY bank, 0 of any other (R30). -/
def Bank.bandCount (b : Bank) : Nat :=
  match b.state with
  | .ready _ n => n
  | .empty | .opened => 0

/-- The band list of a bank (R35). -/
def Bank.bands (b : Bank) : List BandFields := (b.contents.bands.take b.bandCount).map bandFieldsOf

/-! ## Stage records, summaries and reports (R175, R176) -/

/-- The bytes of a summary (Table 9-12). -/
def Summary.bytes : Summary → List Byte
  | .runin torque oil bearing steps =>
      bytesOf 2 torque ++ bytesOfInt 2 oil ++ bytesOfInt 2 bearing ++ bytesOf 1 steps
  | .noise drive coast worst =>
      bytesOf 3 drive ++ bytesOf 3 coast ++
      match worst with
      | some w => bytesOf 1 w.order ++ [w.flank.byte] ++ bytesOf 4 w.amplitude
      | none => bytesOf 6 0
  | .leak rate decay rise => bytesOf 3 rate ++ bytesOf 3 decay ++ [boolByte rise]

/-- The stage whose fields a summary holds (Table 1-4). -/
def Summary.stage : Summary → Stage
  | .runin .. => .runin
  | .noise .. => .noise
  | .leak .. => .leak

/-- Bytes of a stage's summary in its block: 11 in all for RUNIN and LEAK, 16 for NOISE, less 4 (R176). -/
def Stage.summaryLength : Stage → Nat
  | .runin => 7
  | .noise => 12
  | .leak => 7

/-- The byte of a last outcome: end code in bits 7 and 6, cause in bits 5 to 0, 0 where absent (Table 9-12). -/
def outcomeByte : Option StageEnd → Byte
  | some e => BitVec.ofNat 8 (e.code.num * 64 + e.cause.num)
  | none => 0

/-- A stage block (Table 9-12). -/
def StageRecord.block (r : StageRecord) (t : Stage) : List Byte :=
  [r.state.byte, channelByte r.channel, BitVec.ofNat 8 (r.reopens * 16 + r.attempts), outcomeByte r.last] ++
  match r.last with
  | some ⟨_, _, some x⟩ => x.bytes
  | _ => bytesOf t.summaryLength 0

/-- The stage block of a stage, all 0 where the stage records are absent (R176, R177). -/
def blockOf (t : Stage) : Option StageRecord → List Byte
  | some r => r.block t
  | none => bytesOf (4 + t.summaryLength) 0

/-- One stage record among the three. -/
def StageRecords.get (rs : StageRecords) : Stage → StageRecord
  | .runin => rs.runin
  | .noise => rs.noise
  | .leak => rs.leak

/-- The stage records with one replaced. -/
def StageRecords.set (rs : StageRecords) (t : Stage) (r : StageRecord) : StageRecords :=
  match t with
  | .runin => { rs with runin := r }
  | .noise => { rs with noise := r }
  | .leak => { rs with leak := r }

/-- Whether a stage state makes its stage the active one (R7). -/
def StageState.active : StageState → Bool
  | .claimed | .running => true
  | .opened | .passed | .failed | .waived => false

/-- The active stage of a file, with its channel (R7); none for a damaged file (R5). -/
def FileRec.activeStage (f : FileRec) : Option (Stage × Option ChannelId) :=
  f.records.bind fun rs =>
    ([Stage.runin, .noise, .leak].find? fun t => (rs.get t).state.active).map fun t => (t, (rs.get t).channel)

/-- The active stage's two bytes, stage and channel, or two 0 bytes (R175, R177). -/
def FileRec.activeBytes (f : FileRec) : List Byte :=
  match f.activeStage with
  | some (t, c) => [t.byte, channelByte c]
  | none => [0, 0]

/-- A stage's three bytes of the file summary: state, attempts, reopen count (R175). -/
def StageRecord.brief (r : StageRecord) : List Byte := [r.state.byte] ++ bytesOf 1 r.attempts ++ bytesOf 1 r.reopens

/-- The file summary, 40 bytes, of the file at a handle and a position (R17, R18, R175). -/
def FileRec.summary (f : FileRec) (h : Handle) (position : Nat) : List Byte :=
  f.serial ++ h.bytes ++ bytesOfWord f.variant ++ bytesOf 2 f.order ++ bytesOf 1 f.bank.val ++
  [f.verdict.byte, boolByte f.damaged] ++ bytesOf 1 f.holds.length ++
  (f.holds ++ List.replicate (4 - f.holds.length) 0).flatMap (bytesOf 1) ++ bytesOf 1 position ++
  match f.records with
  | some rs => f.activeBytes ++ rs.runin.brief ++ rs.noise.brief ++ rs.leak.brief
  | none => bytesOf 11 0

/-- The hold reasons of a report, one per half byte, the first in the upper half (R176). -/
def holdNibbles (holds : List Nat) : List Byte :=
  let at_ := fun i => holds.getD i 0
  [BitVec.ofNat 8 (at_ 0 * 16 + at_ 1), BitVec.ofNat 8 (at_ 2 * 16 + at_ 3)]

/-- The report of a file, 63 bytes, with its overtake count (R150, R153, R176). -/
def FileRec.report (f : FileRec) (overtake : Nat) : List Byte :=
  f.serial ++ bytesOfWord f.variant ++ bytesOf 2 f.order ++ bytesOf 1 f.bank.val ++
  [f.verdict.reportByte, boolByte f.damaged] ++ bytesOf 1 overtake ++ bytesOf 1 f.holds.length ++
  holdNibbles f.holds ++ blockOf .runin (f.records.map (·.runin)) ++ blockOf .noise (f.records.map (·.noise)) ++
  blockOf .leak (f.records.map (·.leak))

/-- The stray report of a serial: INCOMPLETE, the stray bit, FFh for bank and overtake count, else 0 (R155, R176). -/
def strayReport (serial : Serial) : List Byte :=
  serial ++ bytesOf 6 0 ++ [0xFF, 5, 2, 0xFF] ++ bytesOf 41 0

/-- The answer data of READ CAPTURE and CLEAR CAPTURE (R182). -/
def captureBytes : Option Capture → List Byte
  | some c => [1, c.kind.byte] ++ bytesOf 1 c.slot.val ++ [c.syndrome, c.item.byte]
  | none => [0, 0, 0, 0, 0]

end Sys2Proof.Machine
end

