-- ==== Sys2Proof/Machine/Flags.lean ====
section
/-! DEFINITION. The flags and standing judgements computed from other state: the verdict (R145), port sets and kind
sets (R166, R184, R185), the width a count gives (R92), and the marker, opens and spoils flags of the audio FIFO
(R98, R99). -/

namespace Sys2Proof.Machine

/-! ## The verdict (R145) -/

/-- A stage that does not stand in the way of PASS (R145, line 3). -/
def StageState.settled : StageState → Bool
  | .passed | .waived => true
  | .opened | .claimed | .running | .failed => false

/-- The verdict of a file as it stands: the first line of Table 8-1 that applies (R145). -/
def FileRec.verdictNow (f : FileRec) : Verdict :=
  match f.records with
  | none => .hold
  | some rs =>
    if !f.holds.isEmpty then .hold
    else if rs.runin.state == .failed || rs.noise.state == .failed || rs.leak.state == .failed then .rework
    else if rs.runin.state.settled && rs.noise.state.settled && rs.leak.state.settled then .pass
    else .pending

/-! ## Sets of ports and of kinds (R166, R184, R185) -/

/-- Ports 0 to 7 in order. -/
def allPorts : List PortId := [0, 1, 2, 3, 4, 5, 6, 7]

/-- A set of ports as a byte, bit n for port n (R177, R185). -/
def portSet (has : PortId → Bool) : Byte :=
  BitVec.ofNat 8 (allPorts.foldl (fun acc p => if has p then acc + 2 ^ p.val else acc) 0)

/-- The bit of a notice kind in a kind set (R185). -/
def NoticeKind.bit : NoticeKind → Nat
  | .verdict => 0
  | .lapse => 1
  | .fault => 2
  | .stray => 3

/-- The routing row of a kind (R184). -/
def Router.route (r : Router) : NoticeKind → Route
  | .verdict => r.verdict
  | .lapse => r.lapse
  | .fault => r.fault
  | .stray => r.stray

/-- The router with one routing row replaced. -/
def Router.setRoute (r : Router) (k : NoticeKind) (v : Route) : Router :=
  match k with
  | .verdict => { r with verdict := v }
  | .lapse => { r with lapse := v }
  | .fault => { r with fault := v }
  | .stray => { r with stray := v }

/-- The enables as a kind set (R177, R185). -/
def Router.enables (r : Router) : Byte :=
  BitVec.ofNat 8 ((if r.verdict.enable then 1 else 0) + (if r.lapse.enable then 2 else 0) +
    (if r.fault.enable then 4 else 0) + (if r.stray.enable then 8 else 0))

/-- A routing row with its enable set to `on` where the kind stands in the set (R185). -/
def Route.enableIn (v : Route) (set : Byte) (k : NoticeKind) (on : Bool) : Route :=
  if set.getLsbD k.bit then { v with enable := on } else v

/-- The router with the enables of a kind set's kinds set to `on`, the others kept (R185). -/
def Router.enableKinds (r : Router) (set : Byte) (on : Bool) : Router :=
  { r with
    verdict := r.verdict.enableIn set .verdict on
    lapse := r.lapse.enableIn set .lapse on
    fault := r.fault.enableIn set .fault on
    stray := r.stray.enableIn set .stray on }

/-! ## The audio input's width and flags (R92, R98, R99) -/

/-- The width the count of a half's bit clocks gives, none for a format fault (R92, Table 5-3). -/
def widthOfCount (n : Nat) : Option WordWidth :=
  if n = 16 then some .w16 else if n = 24 then some .w24 else if 32 ≤ n then some .w32 else none

/-- A revolution marker's effect on the three flags (R98). -/
def InputSection.marker (i : InputSection) : InputSection :=
  if !i.revolutionOpen then { i with revolutionOpen := true, markerPending := true }
  else if !i.markerPending then { i with markerPending := true }
  else { i with spoilPending := false }

/-- The newest entry of the FIFO with its spoils flag yes (R99). -/
def spoilNewest (fifo : List FifoEntry) : List FifoEntry :=
  fifo.dropLast ++ fifo.getLast?.toList.map fun e => { e with spoils := true }

/-- A frame completed: it enters the FIFO, or is discarded before the first marker or at a full FIFO
(R96, R98, R99). -/
def InputSection.frame (i : InputSection) (sample : Int) : InputSection :=
  if !i.revolutionOpen then i
  else if i.fifo.length < Config.fifoLimit then
    { i with
      fifo := i.fifo ++ [⟨sample, i.markerPending, i.spoilPending⟩]
      markerPending := false
      spoilPending := false }
  else if i.markerPending then { i with spoilPending := true }
  else { i with fifo := spoilNewest i.fifo }

end Sys2Proof.Machine
end

