-- ==== Sys2Proof/Machine/Ops.lean ====
section
/-! DEFINITION. The named operations over the state: reading and writing its parts, handing frames and notices to the
ports (R160, R184), the verdict's recomputation (R146), the ends of a stage (R57, R62), the read of a file's record
with the errors it finds (R14, R178 to R183), the arbiter's choice (R167), and the whole of a granted request. -/

namespace Sys2Proof.Machine

/-! ## Parts of the state -/

/-- A port. -/
def State.port (s : State) (p : PortId) : Port := s.ports[p]

/-- The state with one port replaced. -/
def State.setPort (s : State) (p : PortId) (v : Port) : State := { s with ports := s.ports.set p.val v p.isLt }

/-- The channels: one of the five. -/
def Channels.get (cs : Channels) : ChannelId → Channel
  | .ra => cs.ra
  | .rb => cs.rb
  | .n => cs.n
  | .la => cs.la
  | .lb => cs.lb

/-- The channels with one replaced. -/
def Channels.set (cs : Channels) (c : ChannelId) (v : Channel) : Channels :=
  match c with
  | .ra => { cs with ra := v }
  | .rb => { cs with rb := v }
  | .n => { cs with n := v }
  | .la => { cs with la := v }
  | .lb => { cs with lb := v }

/-- A channel. -/
def State.chan (s : State) (c : ChannelId) : Channel := s.chans.get c

/-- The state with one channel replaced. -/
def State.setChan (s : State) (c : ChannelId) (v : Channel) : State := { s with chans := s.chans.set c v }

/-- The channels in the order of R65. -/
def allChannels : List ChannelId := [.ra, .rb, .n, .la, .lb]

/-- A run-in monitor. -/
def State.monitor (s : State) : RunInCh → Monitor
  | .a => s.monitors.a
  | .b => s.monitors.b

/-- The state with one run-in monitor replaced. -/
def State.setMonitor (s : State) (c : RunInCh) (m : Monitor) : State :=
  match c with
  | .a => { s with monitors := { s.monitors with a := m } }
  | .b => { s with monitors := { s.monitors with b := m } }

/-- A leak analyzer. -/
def State.leak (s : State) : LeakCh → LeakAnalyzer
  | .a => s.leaks.a
  | .b => s.leaks.b

/-- The state with one leak analyzer replaced. -/
def State.setLeak (s : State) (c : LeakCh) (m : LeakAnalyzer) : State :=
  match c with
  | .a => { s with leaks := { s.leaks with a := m } }
  | .b => { s with leaks := { s.leaks with b := m } }

/-- Slots 0 to 47 in order. -/
def allSlots : List SlotId := List.finRange 48

/-- A slot of the file table (R1). -/
def State.slot (s : State) (i : SlotId) : Slot := s.engine.slots[i]

/-- The state with one slot replaced. -/
def State.setSlot (s : State) (i : SlotId) (v : Slot) : State :=
  { s with engine := { s.engine with slots := s.engine.slots.set i.val v i.isLt } }

/-- The live file of a slot, if it is live (R1). -/
def State.file (s : State) (i : SlotId) : Option FileRec := (s.slot i).file

/-- The state with the file of a live slot written. -/
def State.setFile (s : State) (i : SlotId) (f : FileRec) : State := s.setSlot i { s.slot i with file := some f }

/-- The state with other words of a slot's record standing in error (R178). -/
def State.setErrors (s : State) (i : SlotId) (errs : RecordErrors) : State :=
  s.setSlot i { s.slot i with errors := errs }

/-- The handle of a slot's file: the slot and its generation (R2). -/
def State.handleOf (s : State) (i : SlotId) : Handle := ⟨i, (s.slot i).gen⟩

/-- The file a handle names while the handle is current (R2). -/
def State.fileAt (s : State) (h : Handle) : Option FileRec :=
  if (s.slot h.slot).gen = h.gen then s.file h.slot else none

/-- The slot of a live file's serial, by the serial index; every byte must be equal (R9). -/
def State.find (s : State) (serial : Serial) : Option SlotId :=
  (s.engine.index.find? fun e => e.1 == serial).map (·.2)

/-- A recipe bank. -/
def State.bank (s : State) (b : BankId) : Bank := s.store.banks[b]

/-- The state with one bank replaced. -/
def State.setBank (s : State) (b : BankId) (v : Bank) : State :=
  { s with store := { s.store with banks := s.store.banks.set b.val v b.isLt } }

/-- The recipe bank of the file a channel is bound to (R45). -/
def State.recipe (s : State) (c : ChannelId) : Option Bank :=
  (s.chan c).binding.bind fun b => (s.fileAt b.handle).map fun f => s.bank f.bank

/-- The rate by `div` of the clocks the 4120 drives on ABCK and AWS: in MASTER mode while RESET# is high (R89, R170). -/
def State.drivenClocks (s : State) : Option Byte :=
  if s.audio.mode = .master ∧ !s.resetLow then some s.audio.div else none

/-- What a command does while RESET# is high; while it is low the 4120 takes nothing and sends nothing (R170;
entry 15). -/
def State.unlessReset (s : State) (f : State → State) : State := if s.resetLow then s else f s

/-! ## Frames handed to a port (R160) -/

/-- A frame at the tail of the transmit side: answers and directives are always taken (R160). -/
def Port.hand (q : Port) (f : Frame) : Port := { q with tx := q.tx ++ [f] }

/-- Notices not yet sent (R160; entry 8). -/
def Port.unsentNotices (q : Port) : Nat := (q.tx.filter fun f => f.kind == .notice).length

/-- A notice handed to a port: taken, or lost with the notice overrun flag set where 8 wait (R160). -/
def Port.handNotice (q : Port) (f : Frame) : Port :=
  if q.unsentNotices < Config.noticeLimit then q.hand f else { q with overrun := true }

/-- An answer of a request: its tag, an answer code and answer data (R164, R172). -/
def answerFrame (tag : Byte) (code : AnswerCode) (data : List Byte) : Frame := ⟨.answer, tag, code.byte, data⟩

/-- A frame handed to a port. -/
def State.hand (s : State) (p : PortId) (f : Frame) : State := s.setPort p ((s.port p).hand f)

/-- The port that holds the role of a channel (R46). -/
def State.portOf (s : State) (c : ChannelId) : Option PortId := allPorts.find? fun p => (s.port p).role == c.role

/-- A directive, with tag 0, through the port of the channel's role (R46, R164). -/
def State.direct (s : State) (c : ChannelId) (d : Directive) (payload : List Byte) : State :=
  match s.portOf c with
  | some p => s.hand p ⟨.directive, 0, d.byte, payload⟩
  | none => s

/-- The NOTICE frame of a kind: 12 bytes naming the file, and the detail (R186). -/
def noticeFrame (k : NoticeKind) (name : List Byte) (detail : Byte) : Frame := ⟨.notice, 0, k.byte, name ++ [detail]⟩

/-- A notice raised: a copy handed to every port of its kind's port set, or dropped where the kind is off (R184). -/
def State.raise (s : State) (k : NoticeKind) (name : List Byte) (detail : Byte) : State :=
  if (s.router.route k).enable then
    { s with
      ports := Vector.ofFn fun p : PortId =>
        if (s.router.route k).ports.getLsbD p.val then (s.port p).handNotice (noticeFrame k name detail) else s.port p }
  else s

/-! ## The verdict (R6, R146) -/

/-- The verdict of a slot's file recomputed: stored, with one VERDICT notice where it changes (R6, R146). -/
def State.recompute (s : State) (i : SlotId) : State :=
  match s.file i with
  | some f =>
    if f.verdictNow = f.verdict then s
    else (s.setFile i { f with verdict := f.verdictNow }).raise .verdict f.serial f.verdictNow.byte
  | none => s

/-! ## Ends of a stage (R57, R60, R62) -/

/-- The analyzer of a channel stopped and cleared, its reading queue or FIFO emptied (R87, R102, R125, R144). -/
def State.clearAnalyzer (s : State) : ChannelId → State
  | .ra => s.setMonitor .a .cleared
  | .rb => s.setMonitor .b .cleared
  | .n => { s with input := .stopped, noise := .cleared }
  | .la => s.setLeak .a .cleared
  | .lb => s.setLeak .b .cleared

/-- A channel's binding cleared, its timers stopped, its analyzer cleared, the channel IDLE (R60, R62). -/
def State.restChannel (s : State) (c : ChannelId) : State := (s.setChan c .rest).clearAnalyzer c

/-- The END directive of a binding (R66, R177). -/
def State.directEnd (s : State) (c : ChannelId) (b : Binding) (code : EndCode) (cause : Cause) : State :=
  s.direct c .ended (b.handle.bytes ++ [b.stage.byte] ++ bytesOf 1 code.num ++ bytesOf 1 cause.num)

/-- A channel's own posting: made at the queue's tail, the channel ENDING with its binding, its timers stopped and
its analyzer cleared (R53, R57). -/
def State.post (s : State) (c : ChannelId) (b : Binding) (kind : PostingKind) : State :=
  let queued : State :=
    { s with arbiter := { s.arbiter with postings := s.arbiter.postings ++ [⟨c, b.handle, b.stage, kind⟩] } }
  (queued.setChan c ⟨.ending, some b, none, none⟩).clearAnalyzer c

/-- A channel ends its stage: the END posting, ENDING, and the END directive (R57, R66). -/
def State.endStage (s : State) (c : ChannelId) (e : StageEnd) : State :=
  match (s.chan c).binding with
  | some b => (s.post c b (.ended e)).directEnd c b e.code e.cause
  | none => s

/-- The stage state an end leaves: PASSED, or by the attempts FAILED or OPEN (R60). -/
def stateAfterEnd (code : EndCode) (attempts limit : Nat) : StageState :=
  match code with
  | .pass => .passed
  | .fail | .cutShort => if limit ≤ attempts then .failed else .opened

/-- A stage record with an end applied: state, last outcome, channel field; attempts and reopen count stand
(R60, R62). -/
def StageRecord.applyEnd (r : StageRecord) (limit : Nat) (e : StageEnd) : StageRecord :=
  { r with state := stateAfterEnd e.code r.attempts limit, channel := none, last := some e }

/-- A file with one stage record changed; the lost records of a damaged file stay lost. -/
def FileRec.modStage (f : FileRec) (t : Stage) (g : StageRecord → StageRecord) : FileRec :=
  { f with records := f.records.map fun rs => rs.set t (g (rs.get t)) }

/-- The stage record of a current handle changed; a stale handle changes nothing. -/
def State.modStage (s : State) (h : Handle) (t : Stage) (g : StageRecord → StageRecord) : State :=
  match s.fileAt h with
  | some f => s.setFile h.slot (f.modStage t g)
  | none => s

/-- The retry limit of a stage of the file a handle names (R32, R45). -/
def State.retryLimit (s : State) (h : Handle) (t : Stage) : Nat :=
  match s.fileAt h with
  | some f => (s.bank f.bank).contents.retryLimit t
  | none => 0

/-- The channel's posting deleted, the others in their order (R62, R169). -/
def State.dropPosting (s : State) (c : ChannelId) : State :=
  { s with arbiter := { s.arbiter with postings := s.arbiter.postings.filter fun p => p.channel != c } }

/-- An engine-side end of a bound channel with a cause (R62). -/
def State.engineEnd (s : State) (c : ChannelId) (cause : Cause) : State :=
  match (s.chan c).binding with
  | some b =>
    let ended : StageEnd := ⟨.cutShort, cause, none⟩
    let s1 := (s.dropPosting c).modStage b.handle b.stage fun r => r.applyEnd (s.retryLimit b.handle b.stage) ended
    ((s1.restChannel c).directEnd c b .cutShort cause).recompute b.handle.slot
  | none => s

/-! ## The record memory's words in error (R178 to R180) -/

/-- The words of a record in error once one more has gone wrong: in the order they are read, one error a word. -/
def insertError (errs : RecordErrors) (e : WordError) : RecordErrors :=
  errs.filter (fun x => x.word < e.word) ++ e :: errs.filter (fun x => e.word < x.word)

/-- A slot with words of its record gone wrong (R178). -/
def Slot.disturb (v : Slot) (es : List WordError) : Slot := { v with errors := es.foldl insertError v.errors }

/-- The errors that disturbances bring into one slot, oldest first. -/
def errorsIn (ds : Disturbances) (i : SlotId) : List WordError :=
  (ds.filter fun d => d.slot == i).map (·.error)

/-- The slots with words of their records gone wrong (R178). -/
def disturbSlots (slots : Vector Slot 48) (ds : Disturbances) : Vector Slot 48 :=
  slots.mapFinIdx fun i v hi => v.disturb (errorsIn ds ⟨i, hi⟩)

/-- The state after words of the record memory have gone wrong: they stand in error until a read finds them, or until
their file is retired or a new one admitted (R178; entry 4). -/
def State.disturb (s : State) (ds : Disturbances) : State :=
  { s with engine := { s.engine with slots := disturbSlots s.engine.slots ds } }

/-- Every word found in error written back with fresh check bits; a lasting fault stands in error again (R179). -/
def writtenBack (errs : RecordErrors) : RecordErrors := errs.filter (·.lasting)

/-! ## Reading a file's record (R14, R178 to R183) -/

/-- The kind of an error: UNCORRECTABLE where any word has more than one wrong bit (R181). -/
def errorKind (errs : RecordErrors) : ErrorKind := if errs.any (·.multiple) then .uncorrectable else .correctable

/-- The syndrome of the first word in error of the kind recorded (R181). -/
def errorSyndrome (errs : RecordErrors) : Byte :=
  match errs.find? fun e => e.multiple == (errorKind errs == .uncorrectable) with
  | some e => e.syndrome
  | none => 0

/-- The capture record filled if it is unlocked, and the FAULT notice raised or not (R181, R183). -/
def State.captureError (s : State) (i : SlotId) (item : CaptureItem) (errs : RecordErrors) : State :=
  let k := errorKind errs
  let filled : Capture := ⟨k, i, errorSyndrome errs, item⟩
  let s1 := { s with router := { s.router with capture := some (s.router.capture.getD filled) } }
  if s.router.multi || s.router.capture.isNone then s1.raise .fault (bytesOf 1 i.val ++ bytesOf 11 0) k.byte else s1

/-- The channel bound to a handle (R180). -/
def State.boundTo (s : State) (h : Handle) : Option ChannelId :=
  allChannels.find? fun c => ((s.chan c).binding.map (·.handle)) == some h

/-- A file becomes damaged: its stage records are lost, with what of their words stood in error, its active stage is
ended engine-side with cause DAMAGED, and its verdict is recomputed (R64, R180). -/
def State.damage (s : State) (i : SlotId) (f : FileRec) : State :=
  let s1 := (s.setErrors i []).setFile i { f with records := none }
  let s2 := match s1.boundTo (s1.handleOf i) with
    | some c => s1.engineEnd c .damaged
    | none => s1
  s2.recompute i

/-- The read of a live file's record by an item, before the item's own checks: it finds the words that stand in error.
Where each has one wrong bit they are corrected and written back, otherwise the file becomes damaged. A damaged file's
record is not read (R14, R178 to R183). -/
def State.readFile (s : State) (item : CaptureItem) (i : SlotId) : State :=
  let errs := (s.slot i).errors
  match s.file i with
  | some f =>
    if f.damaged || errs.isEmpty then s
    else
      match errorKind errs with
      | .correctable => (s.captureError i item errs).setErrors i (writtenBack errs)
      | .uncorrectable => (s.captureError i item errs).damage i f
  | none => s

/-! ## The arbiter's choice (R167) -/

/-- What the arbiter grants. -/
inductive Grant where
  | posting (p : Posting)
  | request (p : PortId) (r : Held)
  deriving DecidableEq, Repr

/-- Whether a port holds a request. -/
def State.holds (s : State) (p : PortId) : Bool := (s.port p).held.isSome

/-- The ports in the order that begins after the last granted port (R167). -/
def rotation (last : PortId) : List PortId := (List.range 8).map fun i => ⟨(last.val + 1 + i) % 8, Nat.mod_lt _ (by omega)⟩

/-- The priority of a port. -/
def State.priority (s : State) (p : PortId) : Nat := (s.arbiter.priorities[p]).val

/-- The highest priority among the ports that hold a request (R167). -/
def State.topPriority (s : State) : Nat := ((allPorts.filter s.holds).map s.priority).foldl max 0

/-- The port granted by the scheme, if any holds a request (R167, Table 9-5). -/
def State.grantedPort (s : State) : Option PortId :=
  match s.arbiter.scheme with
  | .rotating => (rotation s.arbiter.lastGranted).find? s.holds
  | .fixed => allPorts.find? fun p => s.holds p && s.priority p == s.topPriority
  | .grouped => (rotation s.arbiter.lastGranted).find? fun p => s.holds p && s.priority p == s.topPriority
  | .portOrder => allPorts.find? s.holds

/-- The arbiter's choice: the oldest posting, otherwise a held request by the scheme, otherwise nothing (R167). -/
def State.grant (s : State) : Option Grant :=
  match s.arbiter.postings with
  | p :: _ => some (.posting p)
  | [] => s.grantedPort.bind fun p => (s.port p).held.map fun r => .request p r

/-! ## A granted request, whole (R163, R167) -/

/-- What the engine makes of a request: the state it leaves, and the answer. -/
structure Reply where
  state : State
  code : AnswerCode
  data : List Byte
  deriving DecidableEq, Repr

/-- A reply with no answer data. -/
def State.reply (s : State) (code : AnswerCode) : Reply := ⟨s, code, []⟩

/-- The grant of a port's request: the last granted port becomes that port (R167). -/
def State.granting (s : State) (p : PortId) : State := { s with arbiter := { s.arbiter with lastGranted := p } }

/-- The answer handed to the port that held the request, with which its hold ends (R163). -/
def State.answer (s : State) (p : PortId) (tag : Byte) (code : AnswerCode) (data : List Byte) : State :=
  s.setPort p { (s.port p).hand (answerFrame tag code data) with held := none }

/-- The item of a request row: where the arbiter grants a held request of this name, the engine executes it and
hands its answer; where it grants anything else, or nothing, the row does not arise (R163, R167; entries 2 and 3). -/
def State.serve (s : State) (r : Request) (item : PortId → List Byte → State → Reply) : State :=
  s.unlessReset fun s =>
    match s.grant with
    | some (.request p h) =>
      if h.request = r then
        let rep := item p h.payload (s.granting p)
        rep.state.answer p h.tag rep.code rep.data
      else s
    | _ => s

/-- The item of a request row that reads the record memory, of which words have gone wrong before (R14, R178;
entry 4). -/
def State.serveReading (s : State) (r : Request) (ds : Disturbances) (item : PortId → List Byte → State → Reply) :
    State :=
  s.serve r fun p payload s => item p payload (s.disturb ds)

/-- A request on a live file by its serial: UNKNOWN where the index finds none; otherwise the file is read, and the
request goes on with its slot and the file as the read left it (R9, R14). -/
def State.onSerial (s : State) (r : Request) (serial : Serial) (go : SlotId → FileRec → State → Reply) : Reply :=
  match s.find serial with
  | none => s.reply .unknown
  | some i =>
    let s1 := s.readFile (.request r) i
    match s1.file i with
    | some f => go i f s1
    | none => s1.reply .unknown

/-- A request on a live file by a handle's two bytes: RANGE or STALE by the handle check, otherwise the file is read
and the request goes on with the handle (R2, R14). -/
def State.onHandle (s : State) (r : Request) (bytes : List Byte) (go : Handle → State → Reply) : Reply :=
  if h : byteAt bytes 0 < 48 then
    let hd : Handle := ⟨⟨byteAt bytes 0, h⟩, bytes.getD 1 0⟩
    match s.fileAt hd with
    | some _ => go hd (s.readFile (.request r) hd.slot)
    | none => s.reply .stale
  else s.reply .range

end Sys2Proof.Machine
end

