-- ==== Sys2Proof/Machine/Banks.lean ====
section
/-! DEFINITION. The requests on the recipe store: OPEN BANK, DISCARD BANK, PUBLISH BANK with its validation (R28 to
R36), BANK STATUS (R37), the loading cursor (R38 to R41), the variant windows and the default disposition (R42, R43). -/

namespace Sys2Proof.Machine

/-! ## OPEN BANK and DISCARD BANK (R28, R29) -/

/-- OPEN BANK's checks and effect (R28). -/
def openBankItem (_ : PortId) (payload : List Byte) (s : State) : Reply :=
  match below8 (byteAt payload 0) with
  | none => s.reply .range
  | some b =>
    let k := s.bank b
    match k.state with
    | .empty => (s.setBank b { k with state := .opened, contents := .zero }).reply .done
    | .ready _ _ =>
      if k.users = 0 then (s.setBank b { k with state := .opened }).reply .done else s.reply .inUse
    | .opened => s.reply .done

/-- OPEN BANK (R28). -/
def execOpenBank (s : State) : Outcome := .next (s.serve .openBank openBankItem)

/-- The entry the cursor loads in READ direction: none past the table's last entry (R39, R41). -/
def loadEntry (c : Contents) (t : Table) (index : Nat) : List Word := if index < t.entries then c.entry t index else []

/-- The cursor after its bank was cleared: position and direction kept, staging emptied, and in READ direction the
entry loaded again (R29; entry 14). -/
def Cursor.afterDiscard (cur : Cursor) (c : Contents) : Cursor :=
  match cur.direction with
  | .write => { cur with staging := [] }
  | .read => { cur with staging := loadEntry c cur.table cur.index, returned := 0 }

/-- A bank's contents cleared, the bank EMPTY, the cursor's staging with them (R29). -/
def State.clearBank (s : State) (b : BankId) : State :=
  let s1 := s.setBank b { s.bank b with state := .empty, contents := .zero }
  { s1 with
    store := { s1.store with
      cursor := s1.store.cursor.map fun cur => if cur.bank = b then cur.afterDiscard .zero else cur } }

/-- DISCARD BANK's checks and effect (R29). -/
def discardBankItem (_ : PortId) (payload : List Byte) (s : State) : Reply :=
  match below8 (byteAt payload 0) with
  | none => s.reply .range
  | some b =>
    match (s.bank b).state with
    | .opened => (s.clearBank b).reply .done
    | .ready _ _ => if (s.bank b).users = 0 then (s.clearBank b).reply .done else s.reply .inUse
    | .empty => s.reply .done

/-- DISCARD BANK (R29). -/
def execDiscardBank (s : State) : Outcome := .next (s.serve .discardBank discardBankItem)

/-! ## Validation (R31 to R36) -/

/-- A number within its range, ends included. -/
def within (lo hi n : Nat) : Bool := lo ≤ n && n ≤ hi

/-- A signed number within its range, ends included. -/
def withinInt (lo hi n : Int) : Bool := lo ≤ n && n ≤ hi

/-- The words of GENERAL that belong to one required stage: its retry limit and its time limit (R32). -/
def generalStageOk (c : Contents) (t : Stage) : Bool :=
  !c.requires t || (within 1 3 (c.retryLimit t) && within 1 3600 (wordAt (c.entry .general 0) (5 + t.bit)))

/-- GENERAL's entry meets its conditions (R31, R32, Table 2-4). -/
def generalOk (c : Contents) : Bool :=
  let e := c.entry .general 0
  wordAt e 0 ≤ 7 && generalStageOk c .runin && generalStageOk c .noise && generalStageOk c .leak &&
  c.claimCode ≤ 7 && wordByte (wordAt e 4) 3 == 0 &&
  (!c.requires .runin || (within 1 15 c.persistence && within 1 15 c.invalidLimit)) &&
  (!c.requires .noise || c.requires .runin)

/-- A STEPS entry that is a step meets its conditions (R33). -/
def stepOk (f : StepFields) : Bool :=
  f.direction ≤ 1 && f.speed ≤ 3000 && f.tolerance ≤ 3000 &&
  withinInt (-30000) 30000 f.torque && f.lower ≤ f.torque && f.torque ≤ f.upper &&
  withinInt (-30000) 30000 f.lower && withinInt (-30000) 30000 f.upper && f.lower ≤ f.upper &&
  within 1 2000 f.oilMax && within 1 2000 f.bearingMax && within 1 3600 f.durationS &&
  f.settleMs ≤ 30000 && f.settleMs < f.durationS * 1000 && f.warm ≤ 2000 && f.warm ≤ f.oilMax

/-- The step count: the STEPS entries before the first whose duration is 0 (R30). -/
def Contents.countSteps (c : Contents) : Nat := (c.steps.takeWhile fun e => (stepFieldsOf e).durationS != 0).length

/-- The band count: the BANDS entries before the first whose order is 0 (R30). -/
def Contents.countBands (c : Contents) : Nat := (c.bands.takeWhile fun e => (bandFieldsOf e).order != 0).length

/-- The first bad entry of STEPS (R31, R33). -/
def badStep (c : Contents) : Option Nat :=
  if c.countSteps = 0 then some 0
  else (List.range c.countSteps).find? fun i => !stepOk (stepFieldsOf (c.entry .steps i))

/-- NOISE's entry meets its conditions (R34). -/
def noiseOk (f : NoiseFields) : Bool :=
  within 1 3000 f.speed && within 128 4096 f.lmin && within 128 4096 f.lmax && f.lmin ≤ f.lmax &&
  f.settle ≤ 255 && within 4 1024 f.driveTarget && f.flankSettle ≤ 255 && within 4 1024 f.coastTarget &&
  f.rejectLimit ≤ 1024 && within 1 16777216 f.driveLimit && within 1 16777216 f.coastLimit

/-- A band of the list meets its conditions (R31, R35). -/
def bandOk (c : Contents) (i : Nat) : Bool :=
  let b := bandFieldsOf (c.entry .bands i)
  b.order ≤ 63 && !((c.bands.take i).any fun e => (bandFieldsOf e).order == b.order) &&
  b.driveLimit ≤ 16777216 && b.coastLimit ≤ 16777216

/-- The first bad entry of BANDS (R31, R35). -/
def badBand (c : Contents) : Option Nat :=
  if c.countBands = 0 then some 0 else (List.range c.countBands).find? fun i => !bandOk c i

/-- LEAK's entry meets its conditions (R36). -/
def leakOk (f : LeakFields) : Bool :=
  within 1 1000000 f.target && f.tolerance ≤ 100000 && f.tolerance ≤ f.target && f.target + f.tolerance ≤ 1000000 &&
  within 100 600000 f.fillMs && f.settleMs ≤ 600000 && f.dropMax ≤ 1000000 && within 1000 600000 f.measureMs &&
  within 1 100000 f.volume && f.leakLimit ≤ 9999999 && within 1 1000000 f.margin && f.tolerance < f.margin

/-- The bad entry of a table of one entry. -/
def badOnly (ok : Bool) : Option Nat := if ok then none else some 0

/-- The bad entry of a table that is checked only where its stage is required (Table 2-3). -/
def whenRequired (c : Contents) (t : Stage) (bad : Option Nat) : Option Nat := if c.requires t then bad else none

/-- The first bad item of validation: its table and entry index (R31). -/
def Contents.firstBad (c : Contents) : Option (Table × Nat) :=
  ((badOnly (generalOk c)).map fun i => (Table.general, i)) <|>
  ((whenRequired c .runin (badStep c)).map fun i => (Table.steps, i)) <|>
  ((whenRequired c .noise (badOnly (noiseOk c.noiseFields))).map fun i => (Table.noise, i)) <|>
  ((whenRequired c .noise (badBand c)).map fun i => (Table.bands, i)) <|>
  ((whenRequired c .leak (badOnly (leakOk c.leakFields))).map fun i => (Table.leak, i))

/-! ## PUBLISH BANK and BANK STATUS (R30, R37) -/

/-- Whether the cursor holds a partial entry for a bank (R30, R38). -/
def Store.partialFor (st : Store) (b : BankId) : Bool :=
  match st.cursor with
  | some cur => cur.bank == b && cur.direction == .write && !cur.staging.isEmpty
  | none => false

/-- PUBLISH BANK's checks and effect (R30). -/
def publishBankItem (_ : PortId) (payload : List Byte) (s : State) : Reply :=
  match below8 (byteAt payload 0) with
  | none => s.reply .range
  | some b =>
    let k := s.bank b
    if k.state ≠ .opened then s.reply .state
    else if s.store.partialFor b then s.reply .state
    else
      match k.contents.firstBad with
      | some (t, i) => ⟨s, .malformed, [t.byte] ++ bytesOf 1 i⟩
      | none =>
        ⟨s.setBank b { k with state := .ready k.contents.countSteps k.contents.countBands, users := 0 }, .done,
          bytesOf 1 k.contents.countSteps ++ bytesOf 1 k.contents.countBands⟩

/-- PUBLISH BANK (R30). -/
def execPublishBank (s : State) : Outcome := .next (s.serve .publishBank publishBankItem)

/-- BANK STATUS's check and answer (R37). -/
def bankStatusItem (_ : PortId) (payload : List Byte) (s : State) : Reply :=
  match below8 (byteAt payload 0) with
  | none => s.reply .range
  | some b =>
    let k := s.bank b
    ⟨s, .done, [k.state.byte] ++ bytesOf 1 k.users ++ bytesOf 1 k.stepCount ++ bytesOf 1 k.bandCount⟩

/-- BANK STATUS (R37). -/
def execBankStatus (s : State) : Outcome := .next (s.serve .bankStatus bankStatusItem)

/-! ## The loading cursor (R38 to R41) -/

/-- The state with the cursor set. -/
def State.setCursor (s : State) (cur : Option Cursor) : State := { s with store := { s.store with cursor := cur } }

/-- CURSOR's checks and effect (R39). -/
def cursorItem (_ : PortId) (payload : List Byte) (s : State) : Reply :=
  match below8 (byteAt payload 0), Table.ofByte (payload.getD 1 0), Direction.ofByte (payload.getD 3 0) with
  | some b, some t, some d =>
    let index := byteAt payload 2
    if t.entries ≤ index then s.reply .range
    else
      let staging := match d with
        | .write => []
        | .read => loadEntry (s.bank b).contents t index
      (s.setCursor (some ⟨b, t, index, d, staging, 0⟩)).reply .done
  | _, _, _ => s.reply .range

/-- CURSOR (R39). -/
def execCursor (s : State) : Outcome := .next (s.serve .cursor cursorItem)

/-- What passing words through the cursor leaves: the bank's contents, the cursor, the number of words taken. -/
structure Written where
  contents : Contents
  cursor : Cursor
  taken : Nat
  deriving DecidableEq, Repr

/-- One word appended to the staging entry; an entry complete is written to the bank and the index advances (R40). -/
def Cursor.takeWord (cur : Cursor) (c : Contents) (w : Word) : Contents × Cursor :=
  let staged := cur.staging ++ [w]
  if staged.length = cur.table.width then
    (c.setEntry cur.table cur.index staged, { cur with staging := [], index := cur.index + 1 })
  else (c, { cur with staging := staged })

/-- The words of a DATA taken in order until the cursor has passed the table's last entry (R40). -/
def writeWords : List Word → Contents → Cursor → Written
  | [], c, cur => ⟨c, cur, 0⟩
  | w :: ws, c, cur =>
    if cur.index < cur.table.entries then
      let r := cur.takeWord c w
      let rest := writeWords ws r.1 r.2
      { rest with taken := rest.taken + 1 }
    else ⟨c, cur, 0⟩

/-- DATA's checks and effect (R40). -/
def dataItem (_ : PortId) (payload : List Byte) (s : State) : Reply :=
  match s.store.cursor with
  | none => s.reply .mode
  | some cur =>
    match cur.direction with
    | .read => s.reply .mode
    | .write =>
      let k := s.bank cur.bank
      if k.state ≠ .opened then s.reply .state
      else
        let words := wordsOf payload
        let r := writeWords words k.contents cur
        ⟨(s.setBank cur.bank { k with contents := r.contents }).setCursor (some r.cursor),
          if r.taken = words.length then .done else .range, bytesOf 1 r.taken ++ bytesOf 1 r.cursor.index⟩

/-- DATA (R40). -/
def execData (s : State) : Outcome := .next (s.serve .data dataItem)

/-- The cursor after one more word of the staged entry has been returned; after the last, the next entry is loaded
(R41). -/
def Cursor.stepRead (cur : Cursor) (c : Contents) : Cursor :=
  if cur.returned + 1 = cur.staging.length then
    { cur with index := cur.index + 1, staging := loadEntry c cur.table (cur.index + 1), returned := 0 }
  else { cur with returned := cur.returned + 1 }

/-- Up to `n` words returned from staging, until the table's end (R41). -/
def readWords (c : Contents) : Nat → Cursor → List Word × Cursor
  | 0, cur => ([], cur)
  | n + 1, cur =>
    match cur.staging[cur.returned]? with
    | some w =>
      let rest := readWords c n (cur.stepRead c)
      (w :: rest.1, rest.2)
    | none => ([], cur)

/-- READ DATA's checks and effect (R41). -/
def readDataItem (_ : PortId) (payload : List Byte) (s : State) : Reply :=
  let n := byteAt payload 0
  if !within 1 15 n then s.reply .range
  else
    match s.store.cursor with
    | none => s.reply .mode
    | some cur =>
      match cur.direction with
      | .write => s.reply .mode
      | .read =>
        let r := readWords (s.bank cur.bank).contents n cur
        ⟨s.setCursor (some r.2), if r.1.length = n then .done else .range, r.1.flatMap bytesOfWord⟩

/-- READ DATA (R41). -/
def execReadData (s : State) : Outcome := .next (s.serve .readData readDataItem)

/-! ## Variant windows and the default disposition (R42, R43) -/

/-- SET WINDOW's checks and effect (R42). -/
def setWindowItem (_ : PortId) (payload : List Byte) (s : State) : Reply :=
  let base : Word := BitVec.ofNat 32 (natOf (field payload 2 4))
  let mask : Word := BitVec.ofNat 32 (natOf (field payload 6 4))
  match below8 (byteAt payload 0), settingOf (payload.getD 1 0), below8 (byteAt payload 10) with
  | some i, some on, some b =>
    if base &&& ~~~mask ≠ 0 then s.reply .malformed
    else
      ({ s with store := { s.store with windows := s.store.windows.set i.val ⟨on, base, mask, b⟩ i.isLt } } : State).reply
        .done
  | _, _, _ => s.reply .range

/-- SET WINDOW (R42). -/
def execSetWindow (s : State) : Outcome := .next (s.serve .setWindow setWindowItem)

/-- The disposition a byte names, REFUSE being absent inside (R43, R173). -/
def dispositionOf (b : Byte) : Option (Option BankId) :=
  if b = 0xFF then some none else (below8 b.toNat).map some

/-- SET DEFAULT's check and effect (R43). -/
def setDefaultItem (_ : PortId) (payload : List Byte) (s : State) : Reply :=
  match dispositionOf (payload.getD 0 0) with
  | none => s.reply .range
  | some d => ({ s with store := { s.store with fallback := d } } : State).reply .done

/-- SET DEFAULT (R43). -/
def execSetDefault (s : State) : Outcome := .next (s.serve .setDefault setDefaultItem)

/-- READ WINDOW's check and answer (R43). -/
def readWindowItem (_ : PortId) (payload : List Byte) (s : State) : Reply :=
  match below8 (byteAt payload 0) with
  | none => s.reply .range
  | some i =>
    let w := s.store.windows[i]
    ⟨s, .done, [boolByte w.enable] ++ bytesOfWord w.base ++ bytesOfWord w.mask ++ bytesOf 1 w.bank.val ++
      [dispositionByte s.store.fallback]⟩

/-- READ WINDOW (R43). -/
def execReadWindow (s : State) : Outcome := .next (s.serve .readWindow readWindowItem)

end Sys2Proof.Machine
end

