-- ==== Sys2Proof/Machine/Files.lean ====
section
/-! DEFINITION. The requests on axle files: ADMIT with its choice of a bank (R15, R16, R44), LOOKUP, LIST, HOLD FILE,
LIFT HOLD and REOPEN STAGE (R17 to R24). -/

namespace Sys2Proof.Machine

/-- The serial a payload begins with (R173). -/
def serialOf (payload : List Byte) : Serial := field payload 0 12

/-! ## ADMIT (R13, R15, R16, R42, R44) -/

/-- Whether a window hits a variant (R44). -/
def Window.hits (w : Window) (v : Word) : Bool := w.enable && v &&& w.mask == w.base

/-- The bank a variant gets: of the lowest-numbered enabled window that hits, otherwise the default disposition
(R44). -/
def Store.choose (st : Store) (v : Word) : Option BankId :=
  match st.windows.toList.find? fun w => w.hits v with
  | some w => some w.bank
  | none => st.fallback

/-- The lowest-numbered free slot (R1, R16). -/
def State.freeSlot (s : State) : Option SlotId := allSlots.find? fun i => (s.file i).isNone

/-- The admission counter after one more admission: 65535 is followed by 1 (R13). -/
def nextOrder (n : Nat) : Nat := if 65535 ≤ n then 1 else n + 1

/-- Whether a bank is READY (R26). -/
def Bank.isReady (b : Bank) : Bool :=
  match b.state with
  | .ready _ _ => true
  | .empty | .opened => false

/-- A new stage record: OPEN where the stage is required, WAIVED where not (R7). -/
def StageRecord.fresh (required : Bool) : StageRecord := ⟨if required then .opened else .waived, 0, 0, none, none⟩

/-- The stage records of a file bound to a bank with these contents (R7, R16). -/
def StageRecords.fresh (c : Contents) : StageRecords :=
  ⟨.fresh (c.requires .runin), .fresh (c.requires .noise), .fresh (c.requires .leak)⟩

/-- Steps 1 to 8 of R16: the file opened in a slot, its record written whole (R178), bound to a bank. -/
def State.openFile (s : State) (i : SlotId) (serial : Serial) (variant : Word) (b : BankId) : State :=
  let order := nextOrder s.engine.admissions
  let file : FileRec := ⟨serial, variant, order, b, [], .pending, some (.fresh (s.bank b).contents)⟩
  let s1 := s.setSlot i ⟨(s.slot i).gen, some file, []⟩
  let s2 : State :=
    { s1 with
      engine := { s1.engine with
        index := s1.engine.index ++ [(serial, i)]
        lineOrder := s1.engine.lineOrder ++ [i]
        admissions := order } }
  s2.setBank b { s2.bank b with users := (s2.bank b).users + 1 }

/-- ADMIT's checks and effect (R15, R16). -/
def admitItem (_ : PortId) (payload : List Byte) (s : State) : Reply :=
  let serial := serialOf payload
  let variant : Word := BitVec.ofNat 32 (natOf (field payload 12 4))
  if !serial.all isSerialByte then s.reply .malformed
  else if (s.find serial).isSome then s.reply .exist
  else
    match s.freeSlot with
    | none => s.reply .full
    | some i =>
      match s.store.choose variant with
      | none => s.reply .noRecipe
      | some b =>
        if (s.bank b).isReady then
          ⟨(s.openFile i serial variant b).recompute i, .done,
            (s.handleOf i).bytes ++ bytesOf 2 (nextOrder s.engine.admissions)⟩
        else s.reply .notReady

/-- ADMIT (R15, R16). -/
def execAdmit (s : State) : Outcome := .next (s.serve .admitAxle admitItem)

/-! ## LOOKUP and LIST (R17 to R19) -/

/-- A slot's position in the line order list, 0 for the oldest (R11). -/
def State.position (s : State) (i : SlotId) : Nat := s.engine.lineOrder.idxOf i

/-- LOOKUP's checks and answer (R17, R18). -/
def lookupItem (_ : PortId) (payload : List Byte) (s : State) : Reply :=
  s.onSerial .lookup (serialOf payload) fun i f s => ⟨s, .done, f.summary (s.handleOf i) (s.position i)⟩

/-- LOOKUP (R17). -/
def execLookup (ds : Disturbances) (s : State) : Outcome := .next (s.serveReading .lookup ds lookupItem)

/-- The number of live files (R11). -/
def State.liveCount (s : State) : Nat := s.engine.lineOrder.length

/-- LIST's check and answer (R19). -/
def listItem (_ : PortId) (payload : List Byte) (s : State) : Reply :=
  match s.engine.lineOrder[byteAt payload 0]? with
  | none => ⟨s, .range, bytesOf 1 s.liveCount⟩
  | some i =>
    let s1 := s.readFile (.request .list) i
    match s1.file i with
    | some f =>
      ⟨s1, .done, bytesOf 1 s1.liveCount ++ f.serial ++ (s1.handleOf i).bytes ++ [f.verdict.byte] ++ f.activeBytes⟩
    | none => ⟨s1, .range, bytesOf 1 s1.liveCount⟩

/-- LIST (R19). -/
def execList (ds : Disturbances) (s : State) : Outcome := .next (s.serveReading .list ds listItem)

/-! ## Holds (R4, R20, R21) -/

/-- Whether a number is a hold reason, 1 to 15 (R4). -/
def isReason (n : Nat) : Bool := 1 ≤ n && n ≤ 15

/-- HOLD FILE's checks and effect (R20). -/
def holdFileItem (_ : PortId) (payload : List Byte) (s : State) : Reply :=
  let reason := byteAt payload 12
  if !isReason reason then s.reply .range
  else
    s.onSerial .holdFile (serialOf payload) fun i f s =>
      if f.holds.contains reason then s.reply .done
      else if Config.holdLimit ≤ f.holds.length then s.reply .full
      else ((s.setFile i { f with holds := f.holds ++ [reason] }).recompute i).reply .done

/-- HOLD FILE (R20). -/
def execHoldFile (ds : Disturbances) (s : State) : Outcome := .next (s.serveReading .holdFile ds holdFileItem)

/-- LIFT HOLD's checks and effect (R21). -/
def liftHoldItem (_ : PortId) (payload : List Byte) (s : State) : Reply :=
  let reason := byteAt payload 12
  if !isReason reason then s.reply .range
  else
    s.onSerial .liftHold (serialOf payload) fun i f s =>
      if f.holds.contains reason then
        ((s.setFile i { f with holds := f.holds.erase reason }).recompute i).reply .done
      else s.reply .state

/-- LIFT HOLD (R21). -/
def execLiftHold (ds : Disturbances) (s : State) : Outcome := .next (s.serveReading .liftHold ds liftHoldItem)

/-! ## REOPEN STAGE (R23, R24) -/

/-- A reopened stage record: OPEN, attempts 0, one more reopen, the last outcome kept (R24). -/
def StageRecord.reopen (r : StageRecord) : StageRecord :=
  { r with state := .opened, attempts := 0, reopens := r.reopens + 1 }

/-- REOPEN STAGE's checks and effect (R23, R24). -/
def reopenStageItem (_ : PortId) (payload : List Byte) (s : State) : Reply :=
  match Stage.ofByte (payload.getD 12 0) with
  | none => s.reply .range
  | some t =>
    s.onSerial .reopenStage (serialOf payload) fun i f s =>
      match f.records with
      | none => s.reply .damaged
      | some rs =>
        if (rs.get t).state ≠ .failed then s.reply .state
        else if Config.reopenLimit ≤ (rs.get t).reopens then s.reply .limit
        else ((s.setFile i (f.modStage t StageRecord.reopen)).recompute i).reply .done

/-- REOPEN STAGE (R23, R24). -/
def execReopenStage (ds : Disturbances) (s : State) : Outcome := .next (s.serveReading .reopenStage ds reopenStageItem)

end Sys2Proof.Machine
end

