-- ==== Sys2Proof/Machine/Links.lean ====
section
/-! DEFINITION. The links: the receive side of a port byte by byte (R159), what a port does with a received request
(R161) and a received reading (R165), the silence of 2 ms (R159), and the frame the transmit side has sent (R160). -/

namespace Sys2Proof.Machine

/-! ## Assembling a frame (R159) -/

/-- What one byte brings about at a receive side. -/
inductive LinkEvent where
  | quiet
  | garbled
  | received (f : Frame)
  deriving DecidableEq, Repr

/-- A complete frame's bytes after its start byte, checked: the check word and the frame kind (R158, R159). -/
def checkFrame (bytes : List Byte) : LinkEvent :=
  let body := bytes.take (4 + byteAt bytes 2)
  if bytes.drop (4 + byteAt bytes 2) = checkBytes body then
    match FrameKind.taken (bytes.getD 0 0) with
    | some kind => .received ⟨kind, bytes.getD 1 0, bytes.getD 3 0, body.drop 4⟩
    | none => .garbled
  else .garbled

/-- The frame being assembled once its bytes after A5h are `bytes`: garbled at a header whose length is above 64,
complete at the last byte of the check word, otherwise going on (R159; entry 6). -/
def assembled (bytes : List Byte) : Option (List Byte) × LinkEvent :=
  if bytes.length < 4 then (some bytes, .quiet)
  else if Config.payloadLimit < byteAt bytes 2 then (none, .garbled)
  else if bytes.length < 6 + byteAt bytes 2 then (some bytes, .quiet)
  else (none, checkFrame bytes)

/-- A byte at a receive side (R159). What an A5h with no stop bit does while no frame is being assembled is a free
value (entry 7). -/
def rxByte (rx : Option (List Byte)) (b : LineByte) : Option (List Byte) × LinkEvent :=
  match rx with
  | none =>
    if b.data ≠ 0xA5 then (none, .quiet)
    else if b.stop then (some [], .quiet)
    else (none, if Config.unframedStartGarbles then .garbled else .quiet)
  | some bytes => if b.stop then assembled (bytes ++ [b.data]) else (none, .garbled)

/-! ## What a port does with a received frame (R161, R165) -/

/-- A port's own answer, handed at once (R161). -/
def State.ownAnswer (s : State) (p : PortId) (tag : Byte) (code : AnswerCode) : State :=
  s.hand p (answerFrame tag code [])

/-- A received REQUEST: the port's checks in order, and the held request (R161, R163). -/
def State.takeRequest (s : State) (p : PortId) (tag code : Byte) (payload : List Byte) : State :=
  if (s.port p).held.isSome then s.ownAnswer p tag .busy
  else
    match Request.ofCode code with
    | none => s.ownAnswer p tag .malformed
    | some r =>
      if !r.permitted (s.port p).role then s.ownAnswer p tag .role
      else if !r.lengthOk payload.length then s.ownAnswer p tag .malformed
      else s.setPort p { s.port p with held := some ⟨tag, r, payload⟩ }

/-- The recipe bank of a channel's file; of a channel with no current file, which no run reaches, an EMPTY bank
(R45; entry 16). -/
def State.bankOf (s : State) (c : ChannelId) : Bank := (s.recipe c).getD .empty

/-- A count of one invalid value on each of the five quantities (R71). -/
def countAll (n : Five Nat) : Five Nat := ⟨n.speed + 1, n.torque + 1, n.oil + 1, n.bearing1 + 1, n.bearing2 + 1⟩

/-- Whether any of the five invalid counters has reached the invalid limit (R71, R79). -/
def anyReached (n : Five Nat) (limit : Nat) : Bool :=
  limit ≤ n.speed || limit ≤ n.torque || limit ≤ n.oil || limit ≤ n.bearing1 || limit ≤ n.bearing2

/-- A reading arrives for a RUNNING run-in channel: queued, or at a full queue discarded and counted (R70, R71). -/
def State.queueRunIn (s : State) (c : RunInCh) (r : RunInReading) : State :=
  let m := s.monitor c
  if m.queue.length < Config.readingLimit then s.setMonitor c { m with queue := m.queue ++ [r] }
  else
    let s1 := s.setMonitor c { m with invalid := countAll m.invalid }
    if anyReached (countAll m.invalid) (s.bankOf c.id).contents.invalidLimit then
      s1.endStage c.id ⟨.cutShort, .sensor, none⟩
    else s1

/-- A reading arrives for a RUNNING leak channel: queued in FILL, SETTLE or MEASURE, discarded in EVALUATE or at a
full queue (R128). -/
def State.queueLeak (s : State) (c : LeakCh) (r : LeakReading) : State :=
  let a := s.leak c
  if a.phase ≠ some .evaluate ∧ a.queue.length < Config.readingLimit then
    s.setLeak c { a with queue := a.queue ++ [r] }
  else s

/-- A received READING of the right length, by the port's role and the state of the role's channel (R165). -/
def State.takeReading (s : State) (p : PortId) (payload : List Byte) : State :=
  match (s.port p).role with
  | .runinA => if (s.chan .ra).state = .running then s.queueRunIn .a (runInReadingOf payload) else s
  | .runinB => if (s.chan .rb).state = .running then s.queueRunIn .b (runInReadingOf payload) else s
  | .leakA => if (s.chan .la).state = .running then s.queueLeak .a (leakReadingOf payload) else s
  | .leakB => if (s.chan .lb).state = .running then s.queueLeak .b (leakReadingOf payload) else s
  | .supervisor | .unassigned | .entry | .exit | .noise => s

/-- The garbled flag of a port set (R159). -/
def State.setGarbled (s : State) (p : PortId) : State := s.setPort p { s.port p with garbled := true }

/-- Whether a READING is discarded as garbled: a code other than 0, or not the reading length of the port's role
(R159). -/
def readingGarbled (role : Role) (f : Frame) : Bool :=
  f.code != 0 || (role.readingLength.isSome && role.readingLength != some f.payload.length)

/-- A frame that passed the checks of the receive side, dealt with by its kind (R159, R161, R165). -/
def State.takeFrame (s : State) (p : PortId) (f : Frame) : State :=
  match f.kind with
  | .request => s.takeRequest p f.tag f.code f.payload
  | .reading =>
    if readingGarbled (s.port p).role f then s.setGarbled p else s.takeReading p f.payload
  | .answer | .directive | .notice => s.setGarbled p

/-- One byte arrives at a port (R159). -/
def State.receiveByte (s : State) (p : PortId) (b : LineByte) : State :=
  let r := rxByte (s.port p).rx b
  let s1 := s.setPort p { s.port p with rx := r.1 }
  match r.2 with
  | .quiet => s1
  | .garbled => s1.setGarbled p
  | .received f => s1.takeFrame p f

/-- The bytes of a line arrive at a port, one after another (R159). -/
def State.receiveLine (s : State) (p : PortId) (line : List LineByte) : State :=
  line.foldl (fun s b => s.receiveByte p b) s

/-! ## The rows -/

/-- REQUEST_FRAME: the bytes of a REQUEST frame arrive (R158, R159, R161). -/
def execRequestFrame (p : PortId) (tag code : Byte) (payload : List Byte) (s : State) : Outcome :=
  .next (s.unlessReset fun s => s.receiveLine p (Frame.line ⟨.request, tag, code, payload⟩))

/-- READING_FRAME: the bytes of a READING frame of code 0 arrive (R158, R159, R165). -/
def execReadingFrame (p : PortId) (tag : Byte) (payload : List Byte) (s : State) : Outcome :=
  .next (s.unlessReset fun s => s.receiveLine p (Frame.line ⟨.reading, tag, 0, payload⟩))

/-- GARBLED_FRAME: raw bytes arrive, each with its stop bit or without (R159). -/
def execGarbledFrame (p : PortId) (line : List LineByte) (s : State) : Outcome :=
  .next (s.unlessReset fun s => s.receiveLine p line)

/-- INTERBYTE_TIMEOUT: 2 ms without a byte while a frame is being assembled discards it (R159). -/
def execInterbyteTimeout (p : PortId) (s : State) : Outcome :=
  .next (s.unlessReset fun s =>
    if (s.port p).rx.isSome then s.setPort p { s.port p with rx := none, garbled := true } else s)

/-- FRAME_SENT: the oldest frame has been sent whole (R160). -/
def execFrameSent (p : PortId) (s : State) : Outcome :=
  .next (s.unlessReset fun s => s.setPort p { s.port p with tx := (s.port p).tx.tail })

end Sys2Proof.Machine
end

