-- ==== Sys2Proof/Machine/Leak.lean ====
section
/-! DEFINITION. The leak analyzer of LA and LB: its start (R129), the readings taken in FILL, SETTLE and MEASURE (R130,
R132, R134 to R137), its four timers (R131, R133, R136, R138), and the evaluation (R140 to R142). -/

namespace Sys2Proof.Machine

/-- The LEAK fields of the bank of the file a leak channel is bound to (R45). -/
def State.leakFields (s : State) (c : LeakCh) : LeakFields := (s.bankOf c.id).contents.leakFields

/-- The analyzer at an accepted START of a LEAK stage (R129). -/
def LeakAnalyzer.started (f : LeakFields) : LeakAnalyzer :=
  { LeakAnalyzer.cleared with phase := some .fill, fillTimer := some f.fillMs }

/-! ## FILL and SETTLE (R130 to R133) -/

/-- A gross-leak end, its summary formed on a pressure (R131, Table 7-4). -/
def grossLeak (f : LeakFields) (pressure : Nat) : StageEnd :=
  ⟨.fail, .grossLeak, some (.leak 9999999 (f.target - pressure) false)⟩

/-- An end cut short with a cause (R57). -/
def leakCut (cause : Cause) : StageEnd := ⟨.cutShort, cause, none⟩

/-- MEASURE begins, with no start reading (R133). -/
def LeakAnalyzer.beginMeasure (a : LeakAnalyzer) : LeakAnalyzer :=
  { a with phase := some .measure, settleTimer := none, startReading := none }

/-- FILL ends: SETTLE begins, or MEASURE at once where the settle time is 0 (R130, R132). -/
def LeakAnalyzer.beginSettle (a : LeakAnalyzer) (f : LeakFields) : LeakAnalyzer :=
  let stopped := { a with fillTimer := none }
  if f.settleMs = 0 then stopped.beginMeasure
  else { stopped with phase := some .settle, settleTimer := some f.settleMs }

/-- What a reading taken leaves: the analyzer going on, an end, or the end reading. -/
inductive LeakTaken where
  | goesOn (a : LeakAnalyzer)
  | ends (e : StageEnd)
  | evaluates (a : LeakAnalyzer)
  deriving DecidableEq, Repr

/-- A reading taken in FILL (R130). -/
def LeakAnalyzer.takeFill (a : LeakAnalyzer) (f : LeakFields) (r : LeakPoint) : LeakTaken :=
  if f.target + f.margin < r.pressure then .ends (leakCut .overpressure)
  else
    let a1 := { a with lastFill := some r.pressure }
    .goesOn (if f.target ≤ r.pressure + f.tolerance ∧ r.pressure ≤ f.target + f.tolerance then a1.beginSettle f else a1)

/-- A reading taken in SETTLE (R132). -/
def LeakAnalyzer.takeSettle (a : LeakAnalyzer) (f : LeakFields) (r : LeakPoint) : LeakTaken :=
  if f.target + f.margin < r.pressure then .ends (leakCut .overpressure)
  else if r.pressure + f.dropMax < f.target then .ends (grossLeak f r.pressure)
  else .goesOn a

/-- A reading taken in MEASURE: the start reading, a reading of the watch, or the end reading (R134, R135, R137). -/
def LeakAnalyzer.takeMeasure (a : LeakAnalyzer) (f : LeakFields) (r : LeakPoint) : LeakTaken :=
  if a.measureExpired then
    .evaluates { a with phase := some .evaluate, queue := [], endTimer := none, endReading := some r }
  else if a.startReading.isNone then
    .goesOn { a with startReading := some r, measureTimer := some f.measureMs }
  else .goesOn a

/-- A reading taken, by the phase; an invalid one is dropped (R127). -/
def LeakAnalyzer.take (a : LeakAnalyzer) (f : LeakFields) (r : LeakReading) : LeakTaken :=
  match r with
  | none => .goesOn a
  | some p =>
    match a.phase with
    | some .fill => a.takeFill f p
    | some .settle => a.takeSettle f p
    | some .measure => a.takeMeasure f p
    | some .evaluate | none => .goesOn a

/-- The VENT directive of a bound channel (R139, R177). -/
def State.directVent (s : State) (c : LeakCh) : State :=
  match (s.chan c.id).binding with
  | some b => s.direct c.id .vent (b.handle.bytes ++ [b.stage.byte])
  | none => s

/-- The end reading is taken: the stage time limit stops, EVALUATE begins and the VENT directive is sent (R137). -/
def State.beginLeakEvaluation (s : State) (c : LeakCh) (a : LeakAnalyzer) : State :=
  ((s.setLeak c a).setChan c.id { s.chan c.id with stageTimer := none }).directVent c

/-- The state after a RUNNING leak channel took the reading at the head of its queue; of any other channel, or with an
empty queue, there is none to take (R128; entry 2). -/
def State.takeLeak (s : State) (c : LeakCh) : State :=
  match (s.chan c.id).state, (s.leak c).queue with
  | .running, r :: rest =>
    match LeakAnalyzer.take { s.leak c with queue := rest } (s.leakFields c) r with
    | .goesOn a => s.setLeak c a
    | .ends e => (s.setLeak c { s.leak c with queue := rest }).endStage c.id e
    | .evaluates a => s.beginLeakEvaluation c a
  | _, _ => s

/-- LEAK_READING_TAKEN (R128, R130, R132, R134, R135, R137). -/
def execLeakReadingTaken (c : LeakCh) (s : State) : Outcome := .next (s.unlessReset fun s => s.takeLeak c)

/-! ## Timers (R131, R133, R136, R138) -/

/-- FILL_TIMER_EXPIRY: a gross leak, formed on the last fill pressure or 0 (R131). -/
def execFillTimerExpiry (c : LeakCh) (s : State) : Outcome :=
  .next (s.unlessReset fun s =>
    if (s.chan c.id).state = .running ∧ (s.leak c).fillTimer.isSome then
      s.endStage c.id (grossLeak (s.leakFields c) ((s.leak c).lastFill.getD 0))
    else s)

/-- LEAK_SETTLE_TIMER_EXPIRY: MEASURE begins (R133). -/
def execLeakSettleTimerExpiry (c : LeakCh) (s : State) : Outcome :=
  .next (s.unlessReset fun s =>
    if (s.chan c.id).state = .running ∧ (s.leak c).settleTimer.isSome then s.setLeak c (s.leak c).beginMeasure else s)

/-- MEASURE_TIMER_EXPIRY: measure expired, and the end-reading timer starts (R136). -/
def execMeasureTimerExpiry (c : LeakCh) (s : State) : Outcome :=
  .next (s.unlessReset fun s =>
    if (s.chan c.id).state = .running ∧ (s.leak c).measureTimer.isSome then
      s.setLeak c { s.leak c with
        measureTimer := none, measureExpired := true, endTimer := some Config.endReadingMs }
    else s)

/-- END_READING_TIMER_EXPIRY: the stage ends NO_READING (R138). -/
def execEndReadingTimerExpiry (c : LeakCh) (s : State) : Outcome :=
  .next (s.unlessReset fun s =>
    if (s.chan c.id).state = .running ∧ (s.leak c).endTimer.isSome then s.endStage c.id (leakCut .noReading) else s)

/-! ## The evaluation (R140 to R142) -/

/-- The compensated end pressure (R140, steps 2 and 3). -/
def compensatedEnd (start ended : LeakPoint) : Int :=
  roundDiv (((ended.pressure : Int) + 101325) * (start.temperature + 27315)) (ended.temperature + 27315).toNat

/-- The leak rate Q of a decay (R141). -/
def leakRate (f : LeakFields) (decay : Nat) : Nat := min 9999999 (decay * f.volume * 60000000 / (101325 * f.measureMs))

/-- The evaluation results of the start reading and the end reading (R140, R141). -/
def evaluateLeak (f : LeakFields) (start ended : LeakPoint) : LeakResults :=
  let difference : Int := (start.pressure : Int) + 101325 - compensatedEnd start ended
  ⟨leakRate f difference.toNat, difference.toNat, difference < 0⟩

/-- The end of the evaluation: end code, cause and summary (R142). -/
def judgeLeak (f : LeakFields) (r : LeakResults) : StageEnd :=
  let summary := Summary.leak r.rate r.decay r.rise
  if f.leakLimit < r.rate then ⟨.fail, .decay, some summary⟩ else ⟨.pass, .none, some summary⟩

/-- The evaluation of a leak channel, whole: its results formed, then the stage ended by their judgement
(R140 to R142; entry 13). In EVALUATE both readings are there. -/
def State.evaluateLeak (s : State) (c : LeakCh) : State :=
  match (s.leak c).startReading, (s.leak c).endReading with
  | some start, some ended =>
    let r := Machine.evaluateLeak (s.leakFields c) start ended
    (s.setLeak c { s.leak c with results := some r }).endStage c.id (judgeLeak (s.leakFields c) r)
  | _, _ => s

/-- LEAK_EVALUATION_END (R142). -/
def execLeakEvaluationEnd (c : LeakCh) (s : State) : Outcome :=
  .next (s.unlessReset fun s =>
    if (s.chan c.id).state = .running ∧ (s.leak c).phase = some .evaluate then s.evaluateLeak c else s)

end Sys2Proof.Machine
end

