-- ==== Sys2Proof/Machine/NoiseInput.lean ====
section
/-! DEFINITION. The noise analyzer's input section: the halves of the word select, the words and frames formed from
them (R90 to R94, R98), the tachometer input (R95, R98) and its watchdog (R97). -/

namespace Sys2Proof.Machine

/-- Whether a phase of the noise stage comes before EVALUATE. -/
def NoisePhase.listens : NoisePhase → Bool
  | .settling | .drive | .flank | .coast => true
  | .evaluate => false

/-- Whether channel N is RUNNING before EVALUATE: the input section takes audio and tach (R95, R97, R100). -/
def State.listening (s : State) : Bool :=
  (s.chan .n).state == .running && (s.noise.phase.map NoisePhase.listens).getD false

/-- The end of a noise stage cut short with a cause (R57). -/
def noiseCut (cause : Cause) : StageEnd := ⟨.cutShort, cause, none⟩

/-! ## Words (R90, R92, R93) -/

/-- The signed number a word's bits hold, most significant bit first (R90). -/
def signedBits (bits : List Bool) : Int :=
  let n : Nat := bits.foldl (fun acc b => 2 * acc + b.toNat) 0
  if bits.head? = some true then (n : Int) - 2 ^ bits.length else n

/-- A word normalized to 24 bits by its width (R93, Table 5-4). -/
def normalize (w : WordWidth) (v : Int) : Int :=
  match w with
  | .w16 => v * 256
  | .w24 => v
  | .w32 => v / 256

/-- What a half of the word select yields. -/
inductive HalfWord where
  | fault
  | word (v : Int)
  deriving DecidableEq, Repr

/-- The word of a half read at a width (R90). -/
def wordAtWidth (w : WordWidth) (bits : List Bool) : HalfWord := .word (normalize w (signedBits (bits.take w.bits)))

/-- What a half yields, by the configured width or the detected one (R90, R92). A MASTER half has 32 bit clocks, in which
a word of any width fits (R90). -/
def halfWord (cfg : AudioConfig) (detected : Option WordWidth) (bits : List Bool) : HalfWord :=
  match cfg.width with
  | some w =>
    if w.bits ≤ bits.length then wordAtWidth w bits else .fault
  | none =>
    match widthOfCount bits.length with
    | none => .fault
    | some w => if detected.getD w = w then wordAtWidth w bits else .fault

/-- The detected width after a half without a fault: in AUTO the first width given (R92). -/
def detectedAfter (cfg : AudioConfig) (detected : Option WordWidth) (bits : List Bool) : Option WordWidth :=
  match cfg.width with
  | some _ => detected
  | none => some (detected.getD ((widthOfCount bits.length).getD .w32))

/-! ## Frames (R91, R94) -/

/-- The sample of a stereo frame (R94, Table 5-6). -/
def stereoSample (src : AudioSource) (left right : Int) : Int :=
  match src with
  | .left => left
  | .right => right
  | .mean => (left + right).tdiv 2

/-- The left half ends with its word: in MONO the frame is complete, in STEREO the word waits for its right half
(R91, R94). -/
def InputSection.endLeft (i : InputSection) (cfg : AudioConfig) (v : Int) : InputSection :=
  match cfg.framing with
  | .mono => i.frame v
  | .stereo => { i with left := some v }

/-- The right half of a STEREO period ends with its word: the frame is complete where the left half yielded a word too
(R91, R94). -/
def InputSection.endRight (i : InputSection) (cfg : AudioConfig) (v : Int) : InputSection :=
  match i.left with
  | some l => { i with left := none }.frame (stereoSample cfg.source l v)
  | none => i

/-- Whether the half that a change of AWS ends can be the one in progress: AWS has the level of its place, and in MASTER
mode, where the 4120 drives the clocks, a half is 32 bit clocks long; one that began before the last START or SET AUDIO
is of either level and may have been cut short (R89 to R91; entries 10 and 11). -/
def InputSection.arises (i : InputSection) (cfg : AudioConfig) (level : AwsLevel) (bits : List Bool) : Bool :=
  match i.place with
  | .before => cfg.mode == .slave || bits.length ≤ 32
  | .left => level == cfg.leftLevel && (cfg.mode == .slave || bits.length == 32)
  | .restRight | .right => level != cfg.leftLevel && (cfg.mode == .slave || bits.length == 32)

/-- A half that is examined ends: a format fault, or the input section with the detected width and the half's word
taken (R90, R92). -/
def InputSection.examine (i : InputSection) (cfg : AudioConfig) (bits : List Bool)
    (go : InputSection → Int → InputSection) : Option InputSection :=
  match halfWord cfg i.detected bits with
  | .fault => none
  | .word v => some (go { i with detected := detectedAfter cfg i.detected bits } v)

/-- A half of the word select ends while the input section listens: the input section it leaves, or a format fault
(R90 to R92). The half in progress at START is neither read nor counted; a right half that ends the period in progress
at START is counted and not read; in MONO no right half is examined (R91, R92; entry 10). -/
def InputSection.half (i : InputSection) (cfg : AudioConfig) (level : AwsLevel) (bits : List Bool) :
    Option InputSection :=
  if !i.arises cfg level bits then some i
  else
    match i.place, cfg.framing with
    | .before, _ => some { i with place := if level == cfg.leftLevel then .restRight else .left }
    | .left, _ => { i with place := .right }.examine cfg bits fun i v => i.endLeft cfg v
    | .restRight, .mono | .right, .mono => some { i with place := .left }
    | .restRight, .stereo => { i with place := .left }.examine cfg bits fun i _ => i
    | .right, .stereo => { i with place := .left }.examine cfg bits fun i v => i.endRight cfg v

/-- AUDIO_HALF_END: a half of the word select ends (R90 to R94, R98, R99, R188; entry 10). -/
def execAudioHalfEnd (level : AwsLevel) (bits : List Bool) (s : State) : Outcome :=
  .next (s.unlessReset fun s =>
    if s.listening then
      match s.input.half s.audio level bits with
      | some i => { s with input := i }
      | none => s.endStage .n (noiseCut .format)
    else s)

/-! ## The tachometer (R95, R97) -/

/-- A rising edge on TACH that is counted: the watchdog starts again, and every P-th edge is a marker (R95, R97, R98). -/
def InputSection.edge (i : InputSection) (pulses : Nat) : InputSection :=
  let i1 := { i with watchdog := some Config.watchdogMs }
  if pulses ≤ i.edges + 1 then { i1 with edges := 0 }.marker else { i1 with edges := i.edges + 1 }

/-- TACH_EDGE (R95). -/
def execTachEdge (s : State) : Outcome :=
  .next (s.unlessReset fun s => if s.listening then { s with input := s.input.edge s.audio.pulses } else s)

/-- TACH_WATCHDOG_EXPIRY: the stage ends NO_TACH (R97). -/
def execTachWatchdogExpiry (s : State) : Outcome :=
  .next (s.unlessReset fun s =>
    if s.listening ∧ s.input.watchdog.isSome then s.endStage .n (noiseCut .noTach) else s)

end Sys2Proof.Machine
end

