-- ==== Sys2Proof/Machine/Noise.lean ====
section
/-! DEFINITION. The noise analyzer of channel N: its start (R106), the taking of FIFO entries into revolutions (R107 to
R111), the fold (R112, R114, R115), the evaluation (R116 to R118) and its judgement (R119 to R121). -/

namespace Sys2Proof.Machine

/-! ## The start (R106) -/

/-- The analyzer at an accepted START of a NOISE stage (R106). -/
def Analyzer.started (f : NoiseFields) : Analyzer :=
  { Analyzer.cleared with phase := some (if f.settle = 0 then .drive else .settling) }

/-- The input section at an accepted START of a NOISE stage (R92, R95, R97, R98). -/
def InputSection.started : InputSection := { InputSection.stopped with watchdog := some Config.watchdogMs }

/-! ## Revolution buffers (R105, R107) -/

/-- The other buffer. -/
def BufferId.other : BufferId → BufferId
  | .x => .y
  | .y => .x

/-- A revolution buffer. -/
def Analyzer.buffer (a : Analyzer) : BufferId → RevBuffer
  | .x => a.x
  | .y => a.y

/-- The analyzer with one buffer replaced. -/
def Analyzer.setBuffer (a : Analyzer) (b : BufferId) (v : RevBuffer) : Analyzer :=
  match b with
  | .x => { a with x := v }
  | .y => { a with y := v }

/-- Whether a revolution of length L is accepted; an L above 4,096 is above every Lmax (R109, R110). -/
def NoiseFields.accepts (f : NoiseFields) (spoiled : Bool) (len : Nat) : Bool :=
  !spoiled && f.lmin ≤ len && len ≤ f.lmax && len ≤ Config.bufferLimit

/-- A settle revolution counted, the phase going on to the next at the given number (R109). -/
def Analyzer.countSettle (a : Analyzer) (target : Nat) (next : NoisePhase) : Analyzer :=
  if target ≤ a.settled + 1 then { a with settled := 0, phase := some next } else { a with settled := a.settled + 1 }

/-- The revolution in the filling buffer closes with length L, judged by the phase in force (R109, R111). -/
def Analyzer.close (a : Analyzer) (f : NoiseFields) (len : Nat) : Analyzer :=
  let buf := a.buffer a.filling
  let emptied := a.setBuffer a.filling .clear
  match a.phase with
  | some .settling => emptied.countSettle f.settle .drive
  | some .flank => emptied.countSettle f.flankSettle .coast
  | some .drive | some .coast =>
    if f.accepts buf.spoiled len then a.setBuffer a.filling { buf with state := .folding }
    else { emptied with rejected := a.rejected + 1 }
  | some .evaluate | none => emptied

/-- An entry opens a revolution in a buffer, which becomes the filling buffer (R107). -/
def Analyzer.openIn (a : Analyzer) (b : BufferId) (e : FifoEntry) : Analyzer :=
  { a.setBuffer b ⟨.filling, [e.sample], e.spoils⟩ with filling := b, discarding := false }

/-- What taking the entry at the head of the FIFO does. -/
inductive Taking where
  | waits                            -- the entry stays at the head (R108)
  | took (a : Analyzer)              -- the entry is taken
  deriving DecidableEq, Repr

/-- An entry with opens yes taken: into the filling buffer where it is empty or entries were being dropped, otherwise
the revolution closes and the entry opens one in the other buffer, once that is not FOLDING (R107, R108). -/
def Analyzer.takeOpening (a : Analyzer) (f : NoiseFields) (e : FifoEntry) : Taking :=
  if a.discarding || (a.buffer a.filling).state != .filling then
    if (a.buffer a.filling).state = .folding then .waits else .took (a.openIn a.filling e)
  else if (a.buffer a.filling.other).state = .folding then .waits
  else .took ((a.close f (a.buffer a.filling).samples.length).openIn a.filling.other e)

/-- An entry with opens no taken: dropped, appended, or the one that makes the revolution overlong (R107, R110), which
closes only after the fold in the other buffer has ended (R108, R122; entry 24). -/
def Analyzer.takeFollowing (a : Analyzer) (f : NoiseFields) (e : FifoEntry) : Taking :=
  let buf := a.buffer a.filling
  if a.discarding || buf.state != .filling then .took a
  else if buf.samples.length < Config.bufferLimit then
    .took (a.setBuffer a.filling
      { buf with samples := buf.samples ++ [e.sample], spoiled := buf.spoiled || e.spoils })
  else if (a.buffer a.filling.other).state = .folding then .waits
  else .took { a.close f (buf.samples.length + 1) with discarding := true }

/-- The entry at the head of the FIFO taken (Table 6-2). -/
def Analyzer.takeEntry (a : Analyzer) (f : NoiseFields) (e : FifoEntry) : Taking :=
  if e.opens then a.takeOpening f e else a.takeFollowing f e

/-- The NOISE fields of the bank of the file N is bound to (R45). -/
def State.noiseFields (s : State) : NoiseFields := (s.bankOf .n).contents.noiseFields

/-- The state after the revolution buffers took the entry at the head of the FIFO, where they can; the stage ends
UNSTEADY where a rejection made the reject count exceed the limit (R107 to R111). -/
def State.takeAudio (s : State) : State :=
  match s.input.fifo with
  | e :: rest =>
    match s.noise.takeEntry s.noiseFields e with
    | .waits => s
    | .took a =>
      let s1 : State := { s with input := { s.input with fifo := rest }, noise := a }
      if s.noise.rejected < a.rejected ∧ s.noiseFields.rejectLimit < a.rejected then
        s1.endStage .n (noiseCut .unsteady)
      else s1
  | [] => s

/-- REVOLUTION_ENTRY_TAKEN (R107). -/
def execRevolutionEntryTaken (s : State) : Outcome :=
  .next (s.unlessReset fun s => if s.listening then s.takeAudio else s)

/-! ## The fold (R112 to R115) -/

/-- A slot with one more sample (R112). -/
def AccSlot.add (a : AccSlot) (sample : Int) : AccSlot := ⟨a.sum + sample, a.count + 1⟩

/-- Samples from number `k` on of a revolution of length L added to their slots (R112). -/
def foldSamples (len : Nat) : Nat → List Int → List AccSlot → List AccSlot
  | _, [], slots => slots
  | k, v :: vs, slots => foldSamples len (k + 1) vs (slots.modify (k * 128 / len) fun a => a.add v)

/-- A whole accepted revolution folded into an accumulator bank, the accepted count one higher (R112). -/
def AccBank.fold (b : AccBank) (samples : List Int) : AccBank :=
  ⟨foldSamples samples.length 0 samples b.slots, b.accepted + 1⟩

/-- The buffer that is FOLDING, if one is (R108). -/
def Analyzer.folding (a : Analyzer) : Option BufferId :=
  if a.x.state = .folding then some .x else if a.y.state = .folding then some .y else none

/-- The FLANK directive (R114, R177). -/
def State.directFlank (s : State) : State :=
  match (s.chan .n).binding with
  | some b => s.direct .n .flank (b.handle.bytes ++ [b.stage.byte, Flank.coast.byte])
  | none => s

/-- The drive target is reached: FLANK begins, or COAST where no flank settle revolution is asked for, and the FLANK
directive is sent (R114). -/
def State.beginFlank (s : State) (f : NoiseFields) : State :=
  { s with noise := { s.noise with phase := some (if f.flankSettle = 0 then .coast else .flank) } }.directFlank

/-- The input section as EVALUATE begins: no frame and no marker is taken any more, the FIFO is emptied, the three
flags are no, the detected width is none, the watchdog stops (R97, R100; entry 22). -/
def InputSection.atEvaluate (i : InputSection) : InputSection :=
  { InputSection.stopped with edges := i.edges }

/-- The coast target is reached: EVALUATE begins, the stage time limit stops, the input section stops, and both
buffers are empty (R56, R100, R115). -/
def State.beginEvaluation (s : State) : State :=
  let s1 := s.setChan .n { s.chan .n with stageTimer := none }
  { s1 with
    input := s.input.atEvaluate
    noise := { s.noise with phase := some .evaluate, x := .clear, y := .clear } }

/-- The fold of a buffer ends (R112). -/
def State.endFold (s : State) (b : BufferId) : State :=
  let a := s.noise
  let f := s.noiseFields
  let samples := (a.buffer b).samples
  let emptied := a.setBuffer b .clear
  match a.phase with
  | some .drive =>
    let s1 : State := { s with noise := { emptied with drive := a.drive.fold samples } }
    if f.driveTarget ≤ s1.noise.drive.accepted then s1.beginFlank f else s1
  | some .coast =>
    let s1 : State := { s with noise := { emptied with coast := a.coast.fold samples } }
    if f.coastTarget ≤ s1.noise.coast.accepted then s1.beginEvaluation else s1
  | _ => s

/-- FOLD_END (R112). -/
def execFoldEnd (s : State) : Outcome :=
  .next (s.unlessReset fun s =>
    if s.listening then
      match s.noise.folding with
      | some b => s.endFold b
      | none => s
    else s)

/-! ## The evaluation (R116 to R118) -/

/-- The deviations of an accumulator bank: slot means less their mean (R116, steps 1 to 3). -/
def AccBank.deviations (b : AccBank) : List Int :=
  let means := b.slots.map fun a => roundDiv a.sum a.count
  let mean := roundDiv means.sum 128
  means.map fun a => a - mean

/-- The level of deviations (R116, step 4). -/
def levelOf (d : List Int) : Nat := isqrt ((d.map fun v => v * v).sum.toNat / 128)

/-- The sum over the slots of the deviation times a table entry at order k, from slot `s` on (R118). -/
def correlate (table : Nat → Int) (k : Nat) : Nat → List Int → Int
  | _, [] => 0
  | s, d :: ds => d * table (k * s) + correlate table k (s + 1) ds

/-- The order amplitude A_k of deviations (R118). -/
def amplitudeOf (d : List Int) (k : Nat) : Nat :=
  let c := correlate cosine k 0 d
  let q := correlate sine k 0 d
  isqrt (c * c + q * q).toNat / 2097152

/-- The evaluation results of the two accumulator banks for a band list (R115 to R118). -/
def Analyzer.evaluate (a : Analyzer) (bands : List BandFields) : NoiseResults where
  driveLevel := levelOf a.drive.deviations
  coastLevel := levelOf a.coast.deviations
  amplitudes := bands.map fun b => (amplitudeOf a.drive.deviations b.order, amplitudeOf a.coast.deviations b.order)

/-! ## The judgement (R119 to R121) -/

/-- A checked pair of band and flank with its limit (R120). -/
structure CheckedPair where
  band : WorstBand
  limit : Nat
  deriving DecidableEq, Repr

/-- The checked pairs of one band, DRIVE before COAST (R120). -/
def checkedPairs (b : BandFields) (amps : Nat × Nat) : List CheckedPair :=
  (if b.driveLimit = 0 then [] else [⟨⟨b.order, .drive, amps.1⟩, b.driveLimit⟩]) ++
  (if b.coastLimit = 0 then [] else [⟨⟨b.order, .coast, amps.2⟩, b.coastLimit⟩])

/-- All checked pairs in table order (R120). -/
def allPairs (bands : List BandFields) (r : NoiseResults) : List CheckedPair :=
  (bands.zip r.amplitudes).flatMap fun x => checkedPairs x.1 x.2

/-- Whether a pair's amplitude is above its limit (R119). -/
def CheckedPair.exceeds (p : CheckedPair) : Bool := p.limit < p.band.amplitude

/-- Whether a pair outranks another, by cross-multiplication (R120). -/
def CheckedPair.outranks (p q : CheckedPair) : Bool := q.band.amplitude * p.limit < p.band.amplitude * q.limit

/-- The pair left after the later pairs have been compared with the worst so far (R120). -/
def worstFrom (worst : CheckedPair) (later : List CheckedPair) : CheckedPair :=
  later.foldl (fun w p => if p.outranks w then p else w) worst

/-- The worst band, absent for no band (R120). -/
def worstBand : List CheckedPair → Option WorstBand
  | [] => none
  | p :: ps => some (worstFrom p ps).band

/-- The end of the evaluation: end code, cause and summary (R119, R121). -/
def judgeNoise (f : NoiseFields) (bands : List BandFields) (r : NoiseResults) : StageEnd :=
  let pairs := allPairs bands r
  let summary := Summary.noise r.driveLevel r.coastLevel (worstBand pairs)
  if f.driveLimit < r.driveLevel || f.coastLimit < r.coastLevel then ⟨.fail, .level, some summary⟩
  else if pairs.any CheckedPair.exceeds then ⟨.fail, .band, some summary⟩
  else ⟨.pass, .none, some summary⟩

/-- The evaluation of channel N, whole: its results formed, then the stage ended by their judgement
(R115 to R119; entry 13). -/
def State.evaluateNoise (s : State) : State :=
  let bands := (s.bankOf .n).bands
  let r := s.noise.evaluate bands
  let s1 : State := { s with noise := { s.noise with results := some r } }
  s1.endStage .n (judgeNoise s.noiseFields bands r)

/-- NOISE_EVALUATION_END (R115, R119). -/
def execNoiseEvaluationEnd (s : State) : Outcome :=
  .next (s.unlessReset fun s =>
    if (s.chan .n).state = .running ∧ s.noise.phase = some .evaluate then s.evaluateNoise else s)

end Sys2Proof.Machine
end

