-- ==== Sys2Proof/Machine/RunIn.lean ====
section
/-! DEFINITION. The run-in monitor of RA and RB: entering a step (R72), taking a reading (R77 to R84), and the expiries
of its settle and step timers (R73 to R76). -/

namespace Sys2Proof.Machine

/-! ## Steps (R72) -/

/-- Entering a step: what is set up for it (R72, entering step k). -/
def Monitor.enterStep (m : Monitor) (k : Nat) (f : StepFields) : Monitor :=
  { m with
    step := k
    stepTimer := some (f.durationS * 1000)
    settleTimer := if f.settleMs = 0 then none else some f.settleMs
    windowOpen := f.settleMs != 0
    breach := ⟨0, 0, 0, 0⟩
    mismatch := 0
    warm := false
    checked := false
    held := { m.held with
      speed := if m.seen.speed then m.held.speed else f.speed
      torque := if m.seen.torque then m.held.torque else f.torque } }

/-- The monitor at an accepted START of a RUNIN stage: set up, in step 1 (R72). -/
def Monitor.started (f : StepFields) : Monitor := Monitor.cleared.enterStep 1 f

/-! ## One reading (R77 to R84) -/

/-- The five values of a reading as they are used: the valid value, or the held one (R79). -/
def usedValues (r : Five (Option Int)) (held : Five Int) : Five Int where
  speed := r.speed.getD held.speed
  torque := r.torque.getD held.torque
  oil := r.oil.getD held.oil
  bearing1 := r.bearing1.getD held.bearing1
  bearing2 := r.bearing2.getD held.bearing2

/-- An invalid counter after a value: 0 at a valid one, one more at an invalid one (R79). -/
def invalidAfter (v : Option Int) (n : Nat) : Nat := if v.isSome then 0 else n + 1

/-- Steps 2 and 3 of R82: the mismatch counter, held values, valid-seen flags and invalid counters. -/
def Monitor.countValues (m : Monitor) (r : Five (Option Int)) : Monitor :=
  { m with
    mismatch := 0
    held := usedValues r m.held
    seen := ⟨m.seen.speed || r.speed.isSome, m.seen.torque || r.torque.isSome, m.seen.oil || r.oil.isSome,
      m.seen.bearing1 || r.bearing1.isSome, m.seen.bearing2 || r.bearing2.isSome⟩
    invalid := ⟨invalidAfter r.speed m.invalid.speed, invalidAfter r.torque m.invalid.torque,
      invalidAfter r.oil m.invalid.oil, invalidAfter r.bearing1 m.invalid.bearing1,
      invalidAfter r.bearing2 m.invalid.bearing2⟩ }

/-- Whether an oil temperature is valid and meets a warm threshold above 0 (R82 step 5, R83). -/
def meetsWarm (warm : Nat) (oil : Option Int) : Bool :=
  match oil with
  | some v => warm != 0 && (warm : Int) ≤ v
  | none => false

/-- A peak after a value: the larger (R84). -/
def peakNat (peak : Option Nat) (v : Nat) : Option Nat := some (max (peak.getD v) v)

/-- A signed peak after a value: the larger (R84). -/
def peakInt (peak : Option Int) (v : Int) : Option Int := some (max (peak.getD v) v)

/-- Steps 7 and 8 of R82: the checked flag and the peaks, with the values as checked. -/
def Monitor.updatePeaks (m : Monitor) (v : Five Int) : Monitor :=
  { m with
    checked := true
    peakTorque := peakNat m.peakTorque v.torque.natAbs
    peakOil := peakInt m.peakOil v.oil
    peakBearing := peakInt m.peakBearing (max v.bearing1 v.bearing2) }

/-- A breach counter after a checked reading (R81). -/
def breachAfter (breach : Bool) (n : Nat) : Nat := if breach then n + 1 else 0

/-- Step 9 of R82: the four breach counters, by Table 4-4. -/
def countBreaches (f : StepFields) (v : Five Int) (b : Breaches) : Breaches where
  speed := breachAfter (v.speed < (f.speed : Int) - f.tolerance || (f.speed : Int) + f.tolerance < v.speed) b.speed
  torque := breachAfter (v.torque < f.lower || f.upper < v.torque) b.torque
  oil := breachAfter ((f.oilMax : Int) < v.oil) b.oil
  bearing := breachAfter ((f.bearingMax : Int) < v.bearing1 || (f.bearingMax : Int) < v.bearing2) b.bearing

/-- Step 10 of R82: the cause of the first breach counter that has reached the breach persistence. -/
def breachCause (b : Breaches) (persistence : Nat) : Option Cause :=
  if persistence ≤ b.speed then some .speed
  else if persistence ≤ b.torque then some .torque
  else if persistence ≤ b.oil then some .oilTemp
  else if persistence ≤ b.bearing then some .bearingTemp
  else none

/-- The RUNIN summary with a number of steps completed (R85). -/
def Monitor.summary (m : Monitor) (steps : Nat) : Summary :=
  .runin (m.peakTorque.getD 0) (m.peakOil.getD 0) (m.peakBearing.getD 0) steps

/-- A cut-short end with a cause (R57). -/
def cutShort (cause : Cause) : StageEnd := ⟨.cutShort, cause, none⟩

/-- Steps 7 to 10 of R82, for a checked reading. -/
def Monitor.check (m : Monitor) (f : StepFields) (persistence : Nat) (v : Five Int) : Monitor × Option StageEnd :=
  let m1 := m.updatePeaks v
  let m2 := { m1 with breach := countBreaches f v m1.breach }
  (m2, (breachCause m2.breach persistence).map fun c => ⟨.fail, c, some (m2.summary (m2.step - 1))⟩)

/-- A settle reading or a checked reading, steps 2 to 10 of R82. -/
def Monitor.treat (m : Monitor) (c : Contents) (r : RunInReading) : Monitor × Option StageEnd :=
  let f := c.step m.step
  let m1 := m.countValues r.values
  if anyReached m1.invalid c.invalidLimit then (m1, some (cutShort .sensor))
  else
    let m2 := { m1 with warm := m1.warm || meetsWarm f.warm r.values.oil }
    if m.windowOpen then (m2, none) else m2.check f c.persistence (usedValues r.values m.held)

/-- A reading taken: the monitor it leaves, and the end it brings, if it brings one (R77, R78, R82). -/
def Monitor.take (m : Monitor) (c : Contents) (r : RunInReading) : Monitor × Option StageEnd :=
  if r.tag = m.step then m.treat c r
  else if m.windowOpen then (m, none)
  else
    let m1 := { m with mismatch := m.mismatch + 1 }
    (m1, if c.persistence ≤ m1.mismatch then some (cutShort .stepLost) else none)

/-- The monitor written, and the stage ended where an end was reached. -/
def State.afterMonitor (s : State) (c : RunInCh) (r : Monitor × Option StageEnd) : State :=
  match r.2 with
  | some e => (s.setMonitor c r.1).endStage c.id e
  | none => s.setMonitor c r.1

/-- The state after a RUNNING run-in channel took the reading at the head of its queue; of any other channel, or with
an empty queue, there is none to take (R70, R82; entry 2). -/
def State.takeRunIn (s : State) (c : RunInCh) : State :=
  match (s.chan c.id).state, (s.monitor c).queue with
  | .running, r :: rest =>
    s.afterMonitor c (Monitor.take { s.monitor c with queue := rest } (s.bankOf c.id).contents r)
  | _, _ => s

/-- RUNIN_READING_TAKEN (R70, R82). -/
def execRuninReadingTaken (c : RunInCh) (s : State) : Outcome := .next (s.unlessReset fun s => s.takeRunIn c)

/-! ## Timers (R73 to R76) -/

/-- SETTLE_TIMER_EXPIRY: the settle window closes (R73). -/
def execSettleTimerExpiry (c : RunInCh) (s : State) : Outcome :=
  .next (s.unlessReset fun s =>
    if (s.chan c.id).state = .running ∧ (s.monitor c).settleTimer.isSome then
      s.setMonitor c { s.monitor c with settleTimer := none, windowOpen := false }
    else s)

/-- The judgement of a step at the end of its duration: the cause that ends the stage, if any (R74, checks 1 and 2). -/
def Monitor.judgeStep (m : Monitor) (f : StepFields) : Option Cause :=
  if !m.checked then some .sensor
  else if f.warm ≠ 0 ∧ !m.warm then some .equipment
  else none

/-- The STEP directive of a bound channel (R75, R177). -/
def State.directStep (s : State) (c : RunInCh) (k : Nat) (f : StepFields) : State :=
  match (s.chan c.id).binding with
  | some b => s.direct c.id .step (b.handle.bytes ++ [b.stage.byte] ++ bytesOf 1 k ++ f.bytes)
  | none => s

/-- The step timer of a RUNNING channel expires: the step judged, and the next step entered or the stage ended
(R74, R76). -/
def State.stepExpired (s : State) (c : RunInCh) : State :=
  let m := s.monitor c
  let k := s.bankOf c.id
  match m.judgeStep (k.contents.step m.step) with
  | some cause => s.endStage c.id (cutShort cause)
  | none =>
    if m.step < k.stepCount then
      let f := k.contents.step (m.step + 1)
      (s.setMonitor c (m.enterStep (m.step + 1) f)).directStep c (m.step + 1) f
    else s.endStage c.id ⟨.pass, .none, some (m.summary k.stepCount)⟩

/-- STEP_TIMER_EXPIRY (R74, R76). -/
def execStepTimerExpiry (c : RunInCh) (s : State) : Outcome :=
  .next (s.unlessReset fun s =>
    if (s.chan c.id).state = .running ∧ (s.monitor c).stepTimer.isSome then s.stepExpired c else s)

end Sys2Proof.Machine
end

