-- ==== Sys2Proof/Machine/Claims.lean ====
section
/-! DEFINITION. Claims and channels: CLAIM, START, ABANDON, RESULT (R49, R50, R55, R59, R67), the postings applied (R54,
R60, R61), and the expiries of the claim start timer and the stage time limit (R52, R53, R56). -/

namespace Sys2Proof.Machine

/-! ## CLAIM (R49, R50) -/

/-- Whether a stage of a file other than the given one is CLAIMED or RUNNING (R49, check 7). -/
def StageRecords.otherActive (rs : StageRecords) (t : Stage) : Bool :=
  [Stage.runin, .noise, .leak].any fun u => u != t && (rs.get u).state.active

/-- The setpoints of an accepted CLAIM (R50, Table 3-4, R177). -/
def Contents.setpoints (c : Contents) : Stage → List Byte
  | .runin => (c.step 1).bytes
  | .noise => bytesOf 2 c.noiseFields.speed
  | .leak => bytesOf 4 c.leakFields.target ++ bytesOf 4 c.leakFields.tolerance

/-- The stage reserved for a channel, and the channel bound (R50, steps 1 to 3). -/
def State.bindChannel (s : State) (i : SlotId) (f : FileRec) (t : Stage) (c : ChannelId) : State :=
  let s1 := s.setFile i (f.modStage t fun r => { r with state := .claimed, channel := some c })
  s1.setChan c ⟨.claimed, some ⟨s.handleOf i, t⟩, claimLimitMs (s.bank f.bank).contents.claimCode, none⟩

/-- Checks 4 to 9 of CLAIM, and its effect (R49, R50). -/
def claimStage (t : Stage) (c : ChannelId) (i : SlotId) (f : FileRec) (s : State) : Reply :=
  match f.records with
  | none => s.reply .damaged
  | some rs =>
    if !f.holds.isEmpty then s.reply .held
    else if (rs.get t).state ≠ .opened then s.reply .state
    else if rs.otherActive t then s.reply .active
    else if t = .noise ∧ !rs.runin.state.settled then s.reply .order
    else if (s.chan c).state ≠ .idle then s.reply .channel
    else
      ⟨(s.bindChannel i f t c).recompute i, .done,
        (s.handleOf i).bytes ++ (s.bank f.bank).contents.setpoints t⟩

/-- CLAIM's checks and effect (R49, R50). -/
def claimItem (p : PortId) (payload : List Byte) (s : State) : Reply :=
  match Stage.ofByte (payload.getD 12 0) with
  | none => s.reply .range
  | some t =>
    match (s.port p).role.channel with
    | none => s.reply .role
    | some c =>
      if c.stage ≠ t then s.reply .role
      else s.onSerial .claim (serialOf payload) (claimStage t c)

/-- CLAIM (R49, R50). -/
def execClaim (ds : Disturbances) (s : State) : Outcome := .next (s.serveReading .claim ds claimItem)

/-! ## START (R55) -/

/-- The analyzer of a channel at an accepted START (R72, R106, R129). -/
def State.startAnalyzer (s : State) (c : ChannelId) : State :=
  let k := (s.bankOf c).contents
  match c with
  | .ra => s.setMonitor .a (.started (k.step 1))
  | .rb => s.setMonitor .b (.started (k.step 1))
  | .n => { s with input := .started, noise := .started k.noiseFields }
  | .la => s.setLeak .a (.started k.leakFields)
  | .lb => s.setLeak .b (.started k.leakFields)

/-- A stage record at an accepted START: RUNNING, one attempt more (R55). -/
def StageRecord.start (r : StageRecord) : StageRecord := { r with state := .running, attempts := r.attempts + 1 }

/-- An accepted START of the stage a channel is bound to (R55). -/
def State.startStage (s : State) (c : ChannelId) (b : Binding) : State :=
  let limit := (s.bankOf c).contents.stageLimitMs b.stage
  let s1 := s.setChan c ⟨.running, some b, none, some limit⟩
  ((s1.modStage b.handle b.stage StageRecord.start).startAnalyzer c).recompute b.handle.slot

/-- START's checks and effect (R55). -/
def startItem (p : PortId) (payload : List Byte) (s : State) : Reply :=
  match (s.port p).role.channel with
  | none => s.reply .role
  | some c =>
    s.onHandle .start payload fun h s =>
      match (s.chan c).binding with
      | some b => if (s.chan c).state = .claimed ∧ b.handle = h then (s.startStage c b).reply .done else s.reply .state
      | none => s.reply .state

/-- START (R55). -/
def execStart (ds : Disturbances) (s : State) : Outcome := .next (s.serveReading .start ds startItem)

/-! ## ABANDON and RESULT (R59, R67) -/

/-- ABANDON's checks and effect (R59). -/
def abandonItem (p : PortId) (payload : List Byte) (s : State) : Reply :=
  match (s.port p).role.channel with
  | none => s.reply .role
  | some c =>
    s.onHandle .abandon payload fun h s =>
      let ch := s.chan c
      if (ch.state = .claimed ∨ ch.state = .running) ∧ ch.binding.map (·.handle) = some h then
        (s.endStage c ⟨.cutShort, .station, none⟩).reply .done
      else s.reply .state

/-- ABANDON (R59). -/
def execAbandon (ds : Disturbances) (s : State) : Outcome := .next (s.serveReading .abandon ds abandonItem)

/-- Whether a port may read a stage: port 0 every stage, another its own stage type (R67, check 2). -/
def mayRead (p : PortId) (role : Role) (t : Stage) : Bool := p == 0 || role.channel.map ChannelId.stage == some t

/-- RESULT's checks and answer (R67, R177). -/
def resultItem (p : PortId) (payload : List Byte) (s : State) : Reply :=
  match Stage.ofByte (payload.getD 2 0) with
  | none => s.reply .range
  | some t =>
    if !mayRead p (s.port p).role t then s.reply .role
    else
      s.onHandle .result payload fun h s =>
        match s.file h.slot with
        | some f => ⟨s, .done, h.bytes ++ [boolByte f.damaged] ++ blockOf t (f.records.map fun rs => rs.get t)⟩
        | none => s.reply .stale

/-- RESULT (R67). -/
def execResult (ds : Disturbances) (s : State) : Outcome := .next (s.serveReading .result ds resultItem)

/-! ## Postings applied (R54, R60, R61) -/

/-- The granted posting out of the queue (R167). -/
def State.popPosting (s : State) : State :=
  { s with arbiter := { s.arbiter with postings := s.arbiter.postings.tail } }

/-- A posting whose handle is stale: a channel still ENDING on that handle is set free, no file is touched (R61). -/
def State.discardPosting (s : State) (p : Posting) : State :=
  if (s.chan p.channel).state = .ending ∧ (s.chan p.channel).binding.map (·.handle) = some p.handle then
    s.restChannel p.channel
  else s

/-- A granted posting: the handle check, the read of the file, and the posting's own effect unless the read's damage
has ended the channel engine-side in its place (R54, R60, R61, R64). -/
def State.applyPosting (s : State) (item : CaptureItem) (p : Posting) (effect : State → State) : State :=
  let s1 := s.popPosting
  match s1.fileAt p.handle with
  | none => s1.discardPosting p
  | some _ =>
    let s2 := s1.readFile item p.handle.slot
    if (s2.chan p.channel).state = .ending then effect s2 else s2

/-- The effect of an END posting (R60). -/
def State.applyEnd (s : State) (p : Posting) (e : StageEnd) : State :=
  let s1 := s.modStage p.handle p.stage fun r => r.applyEnd (s.retryLimit p.handle p.stage) e
  (s1.restChannel p.channel).recompute p.handle.slot

/-- A stage record at a lapse: OPEN, its channel field cleared (R54). -/
def StageRecord.lapse (r : StageRecord) : StageRecord := { r with state := .opened, channel := none }

/-- The LAPSE notice of a file (R54, R186). -/
def State.noticeLapse (s : State) (i : SlotId) (t : Stage) : State :=
  match s.file i with
  | some f => s.raise .lapse f.serial t.byte
  | none => s

/-- The effect of a LAPSE posting (R54). -/
def State.applyLapse (s : State) (p : Posting) : State :=
  let s1 := s.modStage p.handle p.stage StageRecord.lapse
  ((s1.restChannel p.channel).recompute p.handle.slot).noticeLapse p.handle.slot p.stage

/-- END_POSTING_APPLIED: the arbiter grants an END posting (R60, R167). -/
def execEndPostingApplied (ds : Disturbances) (s : State) : Outcome :=
  .next (s.unlessReset fun s =>
    match s.grant with
    | some (.posting p) =>
      match p.kind with
      | .ended e => (s.disturb ds).applyPosting .endPosting p fun s => s.applyEnd p e
      | .lapse => s
    | _ => s)

/-- LAPSE_POSTING_APPLIED: the arbiter grants a LAPSE posting (R54, R167). -/
def execLapsePostingApplied (ds : Disturbances) (s : State) : Outcome :=
  .next (s.unlessReset fun s =>
    match s.grant with
    | some (.posting p) =>
      match p.kind with
      | .lapse => (s.disturb ds).applyPosting .lapsePosting p fun s => s.applyLapse p
      | .ended _ => s
    | _ => s)

/-! ## Timers of a channel (R52, R53, R56) -/

/-- CLAIM_START_EXPIRY: in CLAIMED the channel makes a LAPSE posting and enters ENDING, with no directive
(R52, R53). -/
def execClaimStartExpiry (c : ChannelId) (s : State) : Outcome :=
  .next (s.unlessReset fun s =>
    match (s.chan c).state, (s.chan c).claimTimer, (s.chan c).binding with
    | .claimed, some _, some b => s.post c b .lapse
    | _, _, _ => s)

/-- STAGE_TIME_LIMIT_EXPIRY: before its evaluation the channel ends the stage TIMEOUT (R56). -/
def execStageTimeLimitExpiry (c : ChannelId) (s : State) : Outcome :=
  .next (s.unlessReset fun s =>
    if (s.chan c).state = .running ∧ (s.chan c).stageTimer.isSome then s.endStage c ⟨.cutShort, .timeout, none⟩ else s)

end Sys2Proof.Machine
end

