-- ==== Sys2Proof/Machine/Release.lean ====
section
/-! DEFINITION. Retirement (R147), RELEASE with the stray release (R148, R155), REPORT (R151), FORCE RETIRE (R154) and
SET STRAY (R156). -/

namespace Sys2Proof.Machine

/-- A live file retired: out of the serial index and the line order list, its bank's user count one lower, its slot's
generation one further, the slot free (R147) and its record discarded (R178). -/
def State.retire (s : State) (i : SlotId) (f : FileRec) : State :=
  let s1 : State :=
    { s with
      engine := { s.engine with
        index := s.engine.index.filter fun e => e.1 != f.serial
        lineOrder := s.engine.lineOrder.filter fun j => j != i } }
  let s2 := s1.setBank f.bank { s1.bank f.bank with users := (s1.bank f.bank).users - 1 }
  s2.setSlot i ⟨(s2.slot i).gen + 1, none, []⟩

/-- A stray release, by the stray switch (R155). -/
def State.strayRelease (s : State) (p : PortId) (serial : Serial) : Reply :=
  if s.engine.strayEnabled then
    ⟨s.raise .stray serial (BitVec.ofNat 8 p.val), .done, strayReport serial⟩
  else s.reply .unknown

/-- RELEASE's checks and effect (R148). -/
def releaseItem (p : PortId) (payload : List Byte) (s : State) : Reply :=
  let serial := serialOf payload
  if (s.find serial).isNone then s.strayRelease p serial
  else
    s.onSerial .release serial fun i f s =>
      if f.activeStage.isSome then s.reply .inTest
      else ⟨s.retire i f, .done, f.report (s.position i)⟩

/-- RELEASE (R148, R155). -/
def execRelease (ds : Disturbances) (s : State) : Outcome := .next (s.serveReading .release ds releaseItem)

/-- REPORT's check and answer (R151). -/
def reportItem (_ : PortId) (payload : List Byte) (s : State) : Reply :=
  s.onSerial .report (serialOf payload) fun i f s => ⟨s, .done, f.report (s.position i)⟩

/-- REPORT (R151). -/
def execReport (ds : Disturbances) (s : State) : Outcome := .next (s.serveReading .report ds reportItem)

/-- FORCE RETIRE's check and effect: an active stage ended FORCED, then the file retired (R63, R154). -/
def forceRetireItem (_ : PortId) (payload : List Byte) (s : State) : Reply :=
  s.onSerial .forceRetire (serialOf payload) fun i _ s =>
    let s1 := match s.boundTo (s.handleOf i) with
      | some c => s.engineEnd c .forced
      | none => s
    match s1.file i with
    | some f => (s1.retire i f).reply .done
    | none => s1.reply .unknown

/-- FORCE RETIRE (R154). -/
def execForceRetire (ds : Disturbances) (s : State) : Outcome := .next (s.serveReading .forceRetire ds forceRetireItem)

/-- SET STRAY's check and effect (R156). -/
def setStrayItem (_ : PortId) (payload : List Byte) (s : State) : Reply :=
  match settingOf (payload.getD 0 0) with
  | none => s.reply .range
  | some on =>
    ⟨{ s with engine := { s.engine with strayEnabled := on } }, .done, [boolByte s.engine.strayEnabled]⟩

/-- SET STRAY (R156). -/
def execSetStray (s : State) : Outcome := .next (s.serve .setStray setStrayItem)

end Sys2Proof.Machine
end

