-- ==== Sys2Proof/Machine/Resets.lean ====
section
/-! DEFINITION. The two resets: the reset line (R170) and CELL RESET (R65, R171). -/

namespace Sys2Proof.Machine

/-! ## The reset line (R170) -/

/-- RESET_ASSERT: RESET# goes low and every block takes its power-on state; the queue of commands is the model's own
and stays (R170). -/
def execResetAssert (s : State) : Outcome := .next (.powerOn s.pending true)

/-- RESET_DEASSERT: RESET# returns high (R170). -/
def execResetDeassert (s : State) : Outcome := .next { s with resetLow := false }

/-! ## CELL RESET (R65, R171) -/

/-- Every held request at ports 1 to 7 dropped without an answer (R171, step 1). -/
def State.dropHeld (s : State) : State :=
  { s with
    ports := Vector.ofFn fun p : PortId => if p = 0 then s.port p else { s.port p with held := none } }

/-- One channel ended by a cell reset: the read of its file, then the end with cause RESET unless the read's damage has
ended it (R65). -/
def State.resetChannel (s : State) (c : ChannelId) : State :=
  match (s.chan c).binding with
  | some b => (s.readFile (.request .cellReset) b.handle.slot).engineEnd c .reset
  | none => s

/-- Steps 3 to 5 of a cell reset: channels and analyzers at rest, postings emptied, the last granted port 7, the
loading cursor idle; files, recipes and settings kept (R38, R48, R68, R102, R105, R126, R167, R171). -/
def State.settleReset (s : State) : State :=
  { s with
    arbiter := { s.arbiter with postings := [], lastGranted := 7 }
    store := { s.store with cursor := none }
    chans := ⟨.rest, .rest, .rest, .rest, .rest⟩
    monitors := ⟨.cleared, .cleared⟩
    input := .stopped
    noise := .cleared
    leaks := ⟨.cleared, .cleared⟩ }

/-- The effect of a cell reset, after its answer (R171). -/
def State.cellReset (s : State) : State := (allChannels.foldl State.resetChannel s.dropHeld).settleReset

/-- CELL_RESET: the answer DONE first, then the cell reset in the same item (R171). -/
def execCellReset (ds : Disturbances) (s : State) : Outcome :=
  .next (s.unlessReset fun s =>
    match s.grant with
    | some (.request p h) =>
      if h.request = .cellReset then (((s.granting p).disturb ds).answer p h.tag .done []).cellReset else s
    | _ => s)

end Sys2Proof.Machine
end

