-- ==== Sys2Proof/Machine/Settings.lean ====
section
/-! DEFINITION. The settings and their readings: SET AUDIO and AUDIO STATUS (R103, R104), SET ROLE (R162), SET ARBITER
and SET PRIORITY (R168), STATUS (R166), READ CAPTURE and CLEAR CAPTURE (R182), SET ROUTE, ENABLE SET and ENABLE CLEAR
(R185), SET MULTI (R183). -/

namespace Sys2Proof.Machine

/-! ## SET AUDIO and AUDIO STATUS (R88, R103, R104) -/

/-- The audio configuration a payload gives, if every field lies within its values (R103, check 1). -/
def audioOf (payload : List Byte) : Option AudioConfig := do
  let mode ← AudioMode.ofByte (payload.getD 0 0)
  let width ← widthOfByte (payload.getD 1 0)
  let framing ← Framing.ofByte (payload.getD 2 0)
  let level ← levelOfByte (payload.getD 3 0)
  let source ← AudioSource.ofByte (payload.getD 4 0)
  if 1 ≤ byteAt payload 6 ∧ byteAt payload 6 ≤ 240 then
    some ⟨mode, width, framing, level, source, payload.getD 5 0, byteAt payload 6⟩
  else none

/-- SET AUDIO's checks and effect (R103). -/
def setAudioItem (_ : PortId) (payload : List Byte) (s : State) : Reply :=
  match audioOf payload with
  | none => s.reply .range
  | some cfg =>
    if cfg.mode = .master ∧ cfg.width.isNone then s.reply .mode
    else if (s.chan .n).state ≠ .idle then s.reply .inTest
    else
      ({ s with
          audio := cfg
          input := { s.input with detected := none, edges := 0, place := .before, left := none } } : State).reply .done

/-- SET AUDIO (R103). -/
def execSetAudio (s : State) : Outcome := .next (s.serve .setAudio setAudioItem)

/-- The width in use: the configured width, or in AUTO the detected one (R104). -/
def State.widthInUse (s : State) : Option WordWidth :=
  match s.audio.width with
  | some w => some w
  | none => s.input.detected

/-- The seven fields of the audio configuration as bytes (R173, R177). -/
def AudioConfig.bytes (a : AudioConfig) : List Byte :=
  [a.mode.byte, widthByte a.width, a.framing.byte, a.leftLevel.byte, a.source.byte, a.div] ++ bytesOf 1 a.pulses

/-- AUDIO STATUS's answer (R104). -/
def audioStatusItem (_ : PortId) (_ : List Byte) (s : State) : Reply :=
  ⟨s, .done, s.audio.bytes ++ [(s.chan .n).state.byte, widthByte s.widthInUse]⟩

/-- AUDIO STATUS (R104). -/
def execAudioStatus (s : State) : Outcome := .next (s.serve .audioStatus audioStatusItem)

/-! ## SET ROLE (R162) -/

/-- Whether the channel of a role is bound: CLAIMED, RUNNING or ENDING (R162, check 2). -/
def State.roleBusy (s : State) (r : Role) : Bool :=
  match r.channel with
  | some c => (s.chan c).state != .idle
  | none => false

/-- SET ROLE's checks and effect (R162, Table 9-3). Of a SET ROLE that gives a port the role it already holds, while that
role's channel is bound, check 2 of the table says IN_TEST and the sentence after the table says that it is accepted and
changes nothing: the model answers IN_TEST, its own choice (DESIGN CHOICE, entry 23). -/
def setRoleItem (_ : PortId) (payload : List Byte) (s : State) : Reply :=
  match below8 (byteAt payload 0), Role.ofByte (payload.getD 1 0) with
  | some p, some r =>
    if p = 0 ∨ r = .supervisor then s.reply .range
    else if s.roleBusy (s.port p).role then s.reply .inTest
    else if r ≠ .unassigned ∧ allPorts.any (fun q => q != p && (s.port q).role == r) then s.reply .inUse
    else (s.setPort p { s.port p with role := r }).reply .done
  | _, _ => s.reply .range

/-- SET ROLE (R162). -/
def execSetRole (s : State) : Outcome := .next (s.serve .setRole setRoleItem)

/-! ## SET ARBITER and SET PRIORITY (R168) -/

/-- SET ARBITER's check and effect (R168). -/
def setArbiterItem (_ : PortId) (payload : List Byte) (s : State) : Reply :=
  match Scheme.ofByte (payload.getD 0 0) with
  | none => s.reply .range
  | some x => ({ s with arbiter := { s.arbiter with scheme := x } } : State).reply .done

/-- SET ARBITER (R168). -/
def execSetArbiter (s : State) : Outcome := .next (s.serve .setArbiter setArbiterItem)

/-- SET PRIORITY's check and effect (R168). -/
def setPriorityItem (_ : PortId) (payload : List Byte) (s : State) : Reply :=
  match below8 (byteAt payload 0), below8 (byteAt payload 1) with
  | some p, some n =>
    ({ s with arbiter := { s.arbiter with priorities := s.arbiter.priorities.set p.val n p.isLt } } : State).reply .done
  | _, _ => s.reply .range

/-- SET PRIORITY (R168). -/
def execSetPriority (s : State) : Outcome := .next (s.serve .setPriority setPriorityItem)

/-! ## STATUS (R166) -/

/-- The answer data of STATUS (R166, R177). -/
def State.statusBytes (s : State) : List Byte :=
  [portSet fun p => (s.port p).garbled, portSet fun p => (s.port p).overrun] ++
  (allPorts.drop 1).map (fun p => (s.port p).role.byte) ++
  [s.arbiter.scheme.byte] ++ allPorts.flatMap (fun p => bytesOf 1 (s.priority p)) ++
  bytesOf 1 s.arbiter.lastGranted.val ++ bytesOf 1 s.arbiter.postings.length ++
  allChannels.map (fun c => (s.chan c).state.byte) ++
  [s.router.verdict.ports, s.router.lapse.ports, s.router.fault.ports, s.router.stray.ports, s.router.enables]

/-- The garbled flags and the notice overrun flags of all ports cleared (R166). -/
def State.clearFlags (s : State) : State :=
  { s with ports := Vector.ofFn fun p : PortId => { s.port p with garbled := false, overrun := false } }

/-- STATUS's answer and effect (R166). -/
def statusItem (_ : PortId) (_ : List Byte) (s : State) : Reply := ⟨s.clearFlags, .done, s.statusBytes⟩

/-- STATUS (R166). -/
def execStatus (s : State) : Outcome := .next (s.serve .status statusItem)

/-! ## The capture record (R182) -/

/-- READ CAPTURE's answer (R182). -/
def readCaptureItem (_ : PortId) (_ : List Byte) (s : State) : Reply := ⟨s, .done, captureBytes s.router.capture⟩

/-- READ CAPTURE (R182). -/
def execReadCapture (s : State) : Outcome := .next (s.serve .readCapture readCaptureItem)

/-- CLEAR CAPTURE's answer and effect (R182). -/
def clearCaptureItem (_ : PortId) (_ : List Byte) (s : State) : Reply :=
  ⟨{ s with router := { s.router with capture := none } }, .done, captureBytes s.router.capture⟩

/-- CLEAR CAPTURE (R182). -/
def execClearCapture (s : State) : Outcome := .next (s.serve .clearCapture clearCaptureItem)

/-! ## The notice router's settings (R183, R185) -/

/-- SET ROUTE's check and effect (R185). -/
def setRouteItem (_ : PortId) (payload : List Byte) (s : State) : Reply :=
  match NoticeKind.ofByte (payload.getD 0 0) with
  | none => s.reply .range
  | some k =>
    ({ s with router := s.router.setRoute k { s.router.route k with ports := payload.getD 1 0 } } : State).reply .done

/-- SET ROUTE (R185). -/
def execSetRoute (s : State) : Outcome := .next (s.serve .setRoute setRouteItem)

/-- The enables of a kind set's kinds set to `on`; a kind set with any of bits 4 to 7 set is answered RANGE (R185). -/
def State.enableKinds (s : State) (set : Byte) (on : Bool) : Reply :=
  if 16 ≤ set.toNat then s.reply .range
  else ({ s with router := s.router.enableKinds set on } : State).reply .done

/-- ENABLE SET (R185). -/
def execEnableSet (s : State) : Outcome :=
  .next (s.serve .enableSet fun _ payload s => s.enableKinds (payload.getD 0 0) true)

/-- ENABLE CLEAR (R185). -/
def execEnableClear (s : State) : Outcome :=
  .next (s.serve .enableClear fun _ payload s => s.enableKinds (payload.getD 0 0) false)

/-- SET MULTI's check and effect (R183). -/
def setMultiItem (_ : PortId) (payload : List Byte) (s : State) : Reply :=
  match settingOf (payload.getD 0 0) with
  | none => s.reply .range
  | some on => ⟨{ s with router := { s.router with multi := on } }, .done, [boolByte s.router.multi]⟩

/-- SET MULTI (R183). -/
def execSetMulti (s : State) : Outcome := .next (s.serve .setMulti setMultiItem)

end Sys2Proof.Machine
end

