-- ==== Sys2Proof/Machine/Dispatch.lean ====
section
/-! DEFINITION. The meaning of every command, one arm each. -/

namespace Sys2Proof.Machine

/-- The effect of a command on everything but the queue. -/
def exec (i : Instr) (s : State) : Host.Outcome State Fault Refusal :=
  match i with
  | .requestFrame port tag code payload => Sys2Proof.Machine.execRequestFrame port tag code payload s
  | .readingFrame port tag payload => Sys2Proof.Machine.execReadingFrame port tag payload s
  | .garbledFrame port line => Sys2Proof.Machine.execGarbledFrame port line s
  | .interbyteTimeout port => Sys2Proof.Machine.execInterbyteTimeout port s
  | .frameSent port => Sys2Proof.Machine.execFrameSent port s
  | .resetAssert => Sys2Proof.Machine.execResetAssert s
  | .resetDeassert => Sys2Proof.Machine.execResetDeassert s
  | .admitAxle => Sys2Proof.Machine.execAdmit s
  | .lookup ds => Sys2Proof.Machine.execLookup ds s
  | .list ds => Sys2Proof.Machine.execList ds s
  | .holdFile ds => Sys2Proof.Machine.execHoldFile ds s
  | .liftHold ds => Sys2Proof.Machine.execLiftHold ds s
  | .reopenStage ds => Sys2Proof.Machine.execReopenStage ds s
  | .claim ds => Sys2Proof.Machine.execClaim ds s
  | .start ds => Sys2Proof.Machine.execStart ds s
  | .abandon ds => Sys2Proof.Machine.execAbandon ds s
  | .result ds => Sys2Proof.Machine.execResult ds s
  | .release ds => Sys2Proof.Machine.execRelease ds s
  | .report ds => Sys2Proof.Machine.execReport ds s
  | .forceRetire ds => Sys2Proof.Machine.execForceRetire ds s
  | .setStray => Sys2Proof.Machine.execSetStray s
  | .openBank => Sys2Proof.Machine.execOpenBank s
  | .publishBank => Sys2Proof.Machine.execPublishBank s
  | .discardBank => Sys2Proof.Machine.execDiscardBank s
  | .bankStatus => Sys2Proof.Machine.execBankStatus s
  | .cursor => Sys2Proof.Machine.execCursor s
  | .data => Sys2Proof.Machine.execData s
  | .readData => Sys2Proof.Machine.execReadData s
  | .setWindow => Sys2Proof.Machine.execSetWindow s
  | .setDefault => Sys2Proof.Machine.execSetDefault s
  | .readWindow => Sys2Proof.Machine.execReadWindow s
  | .setAudio => Sys2Proof.Machine.execSetAudio s
  | .audioStatus => Sys2Proof.Machine.execAudioStatus s
  | .setRole => Sys2Proof.Machine.execSetRole s
  | .setArbiter => Sys2Proof.Machine.execSetArbiter s
  | .setPriority => Sys2Proof.Machine.execSetPriority s
  | .status => Sys2Proof.Machine.execStatus s
  | .cellReset ds => Sys2Proof.Machine.execCellReset ds s
  | .readCapture => Sys2Proof.Machine.execReadCapture s
  | .clearCapture => Sys2Proof.Machine.execClearCapture s
  | .setRoute => Sys2Proof.Machine.execSetRoute s
  | .enableSet => Sys2Proof.Machine.execEnableSet s
  | .enableClear => Sys2Proof.Machine.execEnableClear s
  | .setMulti => Sys2Proof.Machine.execSetMulti s
  | .endPostingApplied ds => Sys2Proof.Machine.execEndPostingApplied ds s
  | .lapsePostingApplied ds => Sys2Proof.Machine.execLapsePostingApplied ds s
  | .claimStartExpiry channel => Sys2Proof.Machine.execClaimStartExpiry channel s
  | .stageTimeLimitExpiry channel => Sys2Proof.Machine.execStageTimeLimitExpiry channel s
  | .runinReadingTaken channel => Sys2Proof.Machine.execRuninReadingTaken channel s
  | .settleTimerExpiry channel => Sys2Proof.Machine.execSettleTimerExpiry channel s
  | .stepTimerExpiry channel => Sys2Proof.Machine.execStepTimerExpiry channel s
  | .audioHalfEnd level bits => Sys2Proof.Machine.execAudioHalfEnd level bits s
  | .tachEdge => Sys2Proof.Machine.execTachEdge s
  | .tachWatchdogExpiry => Sys2Proof.Machine.execTachWatchdogExpiry s
  | .revolutionEntryTaken => Sys2Proof.Machine.execRevolutionEntryTaken s
  | .foldEnd => Sys2Proof.Machine.execFoldEnd s
  | .noiseEvaluationEnd => Sys2Proof.Machine.execNoiseEvaluationEnd s
  | .leakReadingTaken channel => Sys2Proof.Machine.execLeakReadingTaken channel s
  | .fillTimerExpiry channel => Sys2Proof.Machine.execFillTimerExpiry channel s
  | .leakSettleTimerExpiry channel => Sys2Proof.Machine.execLeakSettleTimerExpiry channel s
  | .measureTimerExpiry channel => Sys2Proof.Machine.execMeasureTimerExpiry channel s
  | .endReadingTimerExpiry channel => Sys2Proof.Machine.execEndReadingTimerExpiry channel s
  | .leakEvaluationEnd channel => Sys2Proof.Machine.execLeakEvaluationEnd channel s

end Sys2Proof.Machine
end

