-- ==== Sys2Proof/Safety.lean ====
section
/-! DEFINITION. What stays true of a 4120 that runs: the standing conditions of its links (R160 to R163), its channels
and postings (R47, R57, R58), its claims (R47), its recipe store (R26, R30, R38), its file table (R9 to R12, R27), its
file records and their memory (R3, R4, R6, R7, R8, R13, R178), its attempts (R7, R55, R60) and its queues and buffers
(R70, R98, R105, R112, R128). Nothing stops the machine: Fault has no constructor and no arm of exec refuses, so safety
here is these conditions. -/

namespace Sys2Proof.Machine

/-! ## Words of the statements -/

/-- The arbiter grants the request `h` that port `p` holds, a request of the given name, while RESET# is high
(R163, R167, R170). -/
def State.grants (s : State) (r : Request) (p : PortId) (h : Held) : Prop :=
  s.resetLow = false ∧ s.grant = some (.request p h) ∧ h.request = r

/-- A granted request refused: the answer with no data, and no other effect (R161, R163, R173). -/
def State.refuses (s : State) (p : PortId) (h : Held) (code : AnswerCode) : State :=
  (s.granting p).answer p h.tag code []

/-- How far a port stands behind the last granted port in the order that begins after it (R167). -/
def turns (last p : PortId) : Nat := (p.val + 7 - last.val) % 8

/-! ## Links (R159 to R163) -/

/-- The frame being assembled is short of complete, and its header's length is at most 64 (R158, R159). -/
def rxOk (rx : Option (List Byte)) : Prop :=
  ∀ bytes ∈ rx, bytes.length < 4 ∨ (byteAt bytes 2 ≤ Config.payloadLimit ∧ bytes.length < 6 + byteAt bytes 2)

/-- One port: its assembly, its unsent notices, and the length of the request it holds (R159, R160, R161). -/
def Port.ok (q : Port) : Prop :=
  rxOk q.rx ∧ q.unsentNotices ≤ Config.noticeLimit ∧ ∀ h ∈ q.held, h.request.lengthOk h.payload.length = true

/-- The links: port 0 alone is SUPERVISOR, every other role is held by at most one port, and each port is in order
(R160 to R163). -/
def LinkInv (s : State) : Prop :=
  (∀ p : PortId, ((s.port p).role = .supervisor ↔ p = 0)) ∧
  (∀ p q : PortId, (s.port p).role = (s.port q).role → p = q ∨ (s.port p).role = .unassigned) ∧
  ∀ p : PortId, (s.port p).ok

/-! ## Channels and postings (R47, R57, R58, R87, R102, R125, R144) -/

/-- The analyzer of a channel is cleared. -/
def State.analyzerAtRest (s : State) (c : ChannelId) : Prop := s.clearAnalyzer c = s

/-- The analyzer of a RUNNING channel is in its evaluation (R56). -/
def State.evaluating (s : State) : ChannelId → Bool
  | .ra => false
  | .rb => false
  | .n => s.noise.phase == some .evaluate
  | .la => s.leaks.a.phase == some .evaluate
  | .lb => s.leaks.b.phase == some .evaluate

/-- The analyzer of a RUNNING channel is in a phase of its own (R47). -/
def State.analyzerAtWork (s : State) : ChannelId → Bool
  | .ra => s.monitors.a.stepTimer.isSome
  | .rb => s.monitors.b.stepTimer.isSome
  | .n => s.noise.phase.isSome
  | .la => s.leaks.a.phase.isSome
  | .lb => s.leaks.b.phase.isSome

/-- A channel is in order (Table 3-2): by its state, what its binding, its two timers and its analyzer are. -/
def State.channelOk (s : State) (c : ChannelId) : Prop :=
  ((s.chan c).state = .idle → s.chan c = .rest) ∧
  ((s.chan c).state ≠ .idle → (s.chan c).binding.map (·.stage) = some c.stage) ∧
  ((s.chan c).state ≠ .claimed → (s.chan c).claimTimer = none) ∧
  ((s.chan c).state ≠ .running → (s.chan c).stageTimer = none ∧ s.analyzerAtRest c) ∧
  ((s.chan c).state = .running → s.analyzerAtWork c = true ∧ (s.chan c).stageTimer.isSome = !s.evaluating c)

/-- A leak analyzer's timers run in their phases: the fill timer exactly in FILL, the settle timer exactly in SETTLE, the
measure timer only in MEASURE, from its start reading on, until measure expired, and the end-reading timer exactly from
then to the end of MEASURE; EVALUATE has both its readings (R126, R129 to R138). -/
def LeakAnalyzer.timersOk (a : LeakAnalyzer) : Prop :=
  (a.fillTimer.isSome = true ↔ a.phase = some .fill) ∧
  (a.settleTimer.isSome = true ↔ a.phase = some .settle) ∧
  (a.measureTimer.isSome = true →
    a.phase = some .measure ∧ a.measureExpired = false ∧ a.startReading.isSome = true) ∧
  (a.endTimer.isSome = true ↔ a.phase = some .measure ∧ a.measureExpired = true) ∧
  (a.measureExpired = true →
    (a.phase = some .measure ∨ a.phase = some .evaluate) ∧ a.startReading.isSome = true) ∧
  (a.phase = some .evaluate → a.startReading.isSome = true ∧ a.endReading.isSome = true)

/-- An end is complete for its stage: PASS and FAIL with the summary of that stage, CUT_SHORT with none (R8, R57). -/
def StageEnd.okFor (e : StageEnd) (t : Stage) : Bool :=
  if e.code = .cutShort then e.summary.isNone else e.summary.map Summary.stage == some t

/-- What a posting says is complete (R57). -/
def Posting.ok (p : Posting) : Bool :=
  match p.kind with
  | .lapse => true
  | .ended e => e.okFor p.stage

/-- The channels and the internal posting queue: at most one posting per channel, each of a channel ENDING with the
posting's handle and stage, and a posting of every channel that is ENDING (R47, R58); each timer of a leak analyzer in
its phase. -/
def ChannelInv (s : State) : Prop :=
  (∀ c ∈ allChannels, s.channelOk c) ∧ s.leaks.a.timersOk ∧ s.leaks.b.timersOk ∧
  (s.arbiter.postings.map (·.channel)).Nodup ∧
  (∀ p ∈ s.arbiter.postings, s.chan p.channel = ⟨.ending, some ⟨p.handle, p.stage⟩, none, none⟩ ∧ p.ok = true) ∧
  ∀ c ∈ allChannels, (s.chan c).state = .ending → c ∈ s.arbiter.postings.map (·.channel)

/-! ## Claims (R47, R49, R50) -/

/-- The three stages. -/
def allStages : List Stage := [.runin, .noise, .leak]

/-- The stage state a channel state goes with: an ENDING channel's stage is still CLAIMED or RUNNING (R47). -/
def stateMatches : ChanState → StageState → Bool
  | .claimed, x => x == .claimed
  | .running, x => x == .running
  | .ending, x => x.active
  | .idle, _ => false

/-- The stage a channel is bound to names that channel, in a state that goes with the channel's (R47). -/
def State.bindingOk (s : State) (c : ChannelId) (b : Binding) : Prop :=
  ∃ rs ∈ (s.fileAt b.handle).bind (·.records),
    (rs.get b.stage).channel = some c ∧ stateMatches (s.chan c).state (rs.get b.stage).state = true

/-- A stage record names a channel exactly while it is CLAIMED or RUNNING, and that channel is bound to it (R7, R47). -/
def State.stageOk (s : State) (i : SlotId) (t : Stage) (r : StageRecord) : Prop :=
  if r.state.active then ∃ c ∈ r.channel, (s.chan c).binding = some ⟨s.handleOf i, t⟩ else r.channel = none

/-- The claims: bindings and channel fields name each other, and a file has at most one active stage (R7, R47). -/
def ClaimInv (s : State) : Prop :=
  (∀ c ∈ allChannels, ∀ b ∈ (s.chan c).binding, s.bindingOk c b) ∧
  ∀ i : SlotId, ∀ f ∈ s.file i, ∀ rs ∈ f.records,
    (∀ t ∈ allStages, s.stageOk i t (rs.get t)) ∧
    ∀ t ∈ allStages, ∀ u ∈ allStages, (rs.get t).state.active = true → (rs.get u).state.active = true → t = u

/-! ## The recipe store (R26, R27, R30, R38) -/

/-- The contents have the sizes of Table 2-5. -/
def Contents.shaped (c : Contents) : Prop :=
  ∀ t ∈ [Table.general, .steps, .noise, .bands, .leak],
    (c.table t).length = t.entries ∧ ∀ e ∈ c.table t, e.length = t.width

/-- A bank is in order: its contents have their sizes, those of an EMPTY bank are 0, those of a READY bank passed
validation with the counts kept, and a bank with users is READY (R26, R27, R30). -/
def Bank.ok (k : Bank) : Prop :=
  k.contents.shaped ∧ (k.users ≠ 0 → k.isReady = true) ∧
  (k.state = .empty → k.contents = .zero) ∧
  (k.isReady = true →
    k.contents.firstBad = none ∧ k.state = .ready k.contents.countSteps k.contents.countBands)

/-- A set cursor is in order (R38). -/
def Cursor.ok (cur : Cursor) : Prop :=
  cur.index ≤ cur.table.entries ∧
  match cur.direction with
  | .write => cur.staging.length < cur.table.width ∧ cur.returned = 0
  | .read =>
    if cur.index < cur.table.entries then cur.staging.length = cur.table.width ∧ cur.returned < cur.table.width
    else cur.staging = [] ∧ cur.returned = 0

/-- The recipe store: every bank and the cursor in order (R26, R27, R30, R38), and every window's base within its
mask (R42). -/
def StoreInv (s : State) : Prop :=
  (∀ b : BankId, (s.bank b).ok) ∧ (∀ cur ∈ s.store.cursor, cur.ok) ∧
  ∀ w ∈ s.store.windows.toList, w.base &&& ~~~w.mask = 0

/-! ## The file table (R9 to R12, R27) -/

/-- The number of live files bound to a bank (R27). -/
def State.boundFiles (s : State) (b : BankId) : Nat :=
  (allSlots.filter fun i => (s.file i).map (·.bank) == some b).length

/-- The file table: the serial index holds the live files' serials with their slots, each serial once (R9, R10), the
line order list holds each live file exactly once (R12), and every bank's user count is the number of live files bound
to it (R27). -/
def FileTableInv (s : State) : Prop :=
  (s.engine.index.map (·.1)).Nodup ∧
  (∀ e ∈ s.engine.index, (s.file e.2).map (·.serial) = some e.1) ∧
  (∀ i : SlotId, ∀ f ∈ s.file i, (f.serial, i) ∈ s.engine.index) ∧
  s.engine.lineOrder.Nodup ∧
  (∀ i : SlotId, i ∈ s.engine.lineOrder ↔ (s.file i).isSome = true) ∧
  ∀ b : BankId, (s.bank b).users = s.boundFiles b

/-! ## File records (R3, R4, R6, R7, R8, R13) -/

/-- A file's own fields are in order: the characters of its serial, its order number, its holds list, its stored
verdict, and the reopen counts and last outcomes of its stages (R3, R4, R6, R7, R8, R145). -/
def FileRec.ok (f : FileRec) : Prop :=
  f.serial.all isSerialByte = true ∧ 1 ≤ f.order ∧ f.order ≤ 65535 ∧
  f.holds.length ≤ Config.holdLimit ∧ f.holds.Nodup ∧ (∀ r ∈ f.holds, 1 ≤ r ∧ r ≤ 15) ∧
  f.verdict = f.verdictNow ∧
  ∀ rs ∈ f.records, ∀ t ∈ allStages,
    (rs.get t).reopens ≤ Config.reopenLimit ∧ ∀ e ∈ (rs.get t).last, e.okFor t = true

/-- The live files' own fields and the admission counter are in order (R3, R4, R6, R7, R8, R13), and the words of each
record that stand in error are listed in the order they are read, each once (R178). -/
def FileInv (s : State) : Prop :=
  s.engine.admissions ≤ 65535 ∧ (∀ i : SlotId, ∀ f ∈ s.file i, f.ok) ∧
  ∀ i : SlotId, (s.slot i).errors.Pairwise fun a b => a.word < b.word

/-! ## Attempts (R7, R32, R55, R60) -/

/-- A stage's attempts are in order: WAIVED exactly where the file's bank does not require the stage; a required stage
has no more attempts than the bank's retry limit, and fewer while it is OPEN or CLAIMED (R7, R32, R55, R60). -/
def attemptsOk (c : Contents) (t : Stage) (r : StageRecord) : Prop :=
  (r.state = .waived ↔ c.requires t = false) ∧
  (c.requires t = true → r.attempts ≤ c.retryLimit t ∧
    (r.state = .opened ∨ r.state = .claimed → r.attempts < c.retryLimit t))

/-- The attempts of every live file's stages are in order, and a stage whose lapse is posted is still CLAIMED
(R7, R53, R55, R60). -/
def AttemptInv (s : State) : Prop :=
  (∀ i : SlotId, ∀ f ∈ s.file i, ∀ rs ∈ f.records, ∀ t ∈ allStages,
    attemptsOk (s.bank f.bank).contents t (rs.get t)) ∧
  ∀ p ∈ s.arbiter.postings, p.kind = .lapse → ∀ f ∈ s.fileAt p.handle, ∀ rs ∈ f.records,
    (rs.get p.stage).state = .claimed

/-! ## Queues and buffers (R70, R98, R105, R112, R113, R128) -/

/-- A revolution buffer is in order: at most 4,096 samples, none in an empty one (R105, R110). -/
def RevBuffer.ok (b : RevBuffer) : Prop :=
  b.samples.length ≤ Config.bufferLimit ∧ (b.state = .empty → b = .clear)

/-- The queues and buffers hold no more than their limits, each accumulator bank has its 128 slots, and at most one
revolution is folding, never the filling buffer (R70, R98, R105, R108, R128). -/
def QueueInv (s : State) : Prop :=
  s.monitors.a.queue.length ≤ Config.readingLimit ∧ s.monitors.b.queue.length ≤ Config.readingLimit ∧
  s.leaks.a.queue.length ≤ Config.readingLimit ∧ s.leaks.b.queue.length ≤ Config.readingLimit ∧
  s.input.fifo.length ≤ Config.fifoLimit ∧
  s.noise.x.ok ∧ s.noise.y.ok ∧ (s.noise.buffer s.noise.filling).state ≠ .folding ∧
  s.noise.drive.slots.length = 128 ∧ s.noise.coast.slots.length = 128

end Sys2Proof.Machine
end

