-- ==== Sys2Proof/Certificates/Slice0/Obligations.lean ====
section
/-! DEFINITION. The statements for the provers. Each says in its docstring which rule of spec/ it is about; where it
rests on a choice of the model, it names the log entry. -/

open Sys2Proof Sys2Proof.Machine

/-! ## The step and the queue of commands -/

/-- A step with a command at the front of the queue is that command's meaning on the state with the queue's rest; on an
empty queue the block idles (the model's choice, entry 1). -/
def Obligations.StepRunsTheFrontCommand : Prop :=
  (∀ (c : Instr) (rest : List Instr) (s : State),
    step { s with pending := c :: rest } = exec c { s with pending := rest }) ∧
  ∀ s : State, s.pending = [] → step s = .next s

/-- Every command answers a next state and leaves the queue of commands alone: there is no fault and no refusal. -/
def Obligations.EveryCommandAnswersNextAndKeepsTheQueue : Prop :=
  ∀ (c : Instr) (s : State), ∃ t : State, exec c s = .next t ∧ t.pending = s.pending

/-! ## Links (chapter 9) -/

/-- Table 9-2 of R161: the code, the payload lengths and the permitted roles of every request, each by its name. R172:
the frame kinds, the answer codes of Table 9-7 and the directive codes, each the number of its place in its table. R173,
R177, R182, R185: the enumerated values of Table 9-8, the states of channels and banks, the error kinds and the notice
kinds, each the same; where the table gives 0 to an absent item, 0 is that. R173: the bytes of numbers, most
significant first, signed ones in two's complement, of words, handles, settings and the default disposition, and the
characters of a serial. R177: the step setpoint block. R158: the bytes of a frame on the line, and its check word. -/
def Obligations.RequestTableHasItsCodesLengthsAndRoles : Prop :=
  let testers : List Role := [Role.runinA, Role.runinB, Role.noise, Role.leakA, Role.leakB]
  let files : List (Request × Nat × List Nat × List Role) :=
    [(.admitAxle, 1, [16], [.entry]), (.lookup, 2, [12], [.entry, .exit] ++ testers), (.list, 3, [1], []),
      (.holdFile, 4, [13], []), (.liftHold, 5, [13], []), (.reopenStage, 6, [13], []), (.claim, 7, [13], testers),
      (.start, 8, [2], testers), (.abandon, 9, [2], testers), (.result, 10, [3], testers),
      (.release, 11, [12], [.exit]), (.report, 12, [12], [.exit]), (.forceRetire, 13, [12], []),
      (.setStray, 14, [1], [])]
  let recipes : List (Request × Nat × List Nat × List Role) :=
    [(.openBank, 15, [1], []), (.publishBank, 16, [1], []), (.discardBank, 17, [1], []), (.bankStatus, 18, [1], []),
      (.cursor, 19, [4], []), (.data, 20, [4, 8, 12, 16, 20, 24, 28, 32, 36, 40, 44, 48, 52, 56, 60], []),
      (.readData, 21, [1], []), (.setWindow, 22, [11], []), (.setDefault, 23, [1], []), (.readWindow, 24, [1], [])]
  let settings : List (Request × Nat × List Nat × List Role) :=
    [(.setAudio, 25, [7], []), (.audioStatus, 26, [0], []), (.setRole, 27, [2], []), (.setArbiter, 28, [1], []),
      (.setPriority, 29, [2], []), (.status, 30, [0], []), (.cellReset, 31, [0], []), (.readCapture, 32, [0], []),
      (.clearCapture, 33, [0], []), (.setRoute, 34, [2], []), (.enableSet, 35, [1], []), (.enableClear, 36, [1], []),
      (.setMulti, 37, [1], [])]
  let rows := files ++ recipes ++ settings
  (∀ (code : Byte) (r : Request), Request.ofCode code = some r ↔ r.code = code.toNat) ∧
  (∀ r : Request, r ∈ rows.map (·.1)) ∧
  (∀ row ∈ rows, row.1.code = row.2.1 ∧ (∀ n : Nat, row.1.lengthOk n = true ↔ n ∈ row.2.2.1) ∧
    ∀ role : Role, row.1.permitted role = true ↔ role = .supervisor ∨ role ∈ row.2.2.2) ∧
  (let kinds : List (Option FrameKind) :=
     [none, some .request, some .answer, some .reading, some .directive, some .notice]
   let answers : List AnswerCode :=
     [.done, .busy, .role, .malformed, .range, .unknown, .exist, .full, .noRecipe, .notReady, .held, .damaged, .state,
       .active, .order, .channel, .stale, .limit, .inUse, .inTest, .mode]
   let directives : List (Option Directive) := [none, some .step, some .flank, some .vent, some .ended]
   (∀ k : FrameKind, kinds[k.byte.toNat]? = some (some k)) ∧
   (∀ a : AnswerCode, answers[a.byte.toNat]? = some a) ∧
   ∀ d : Directive, directives[d.byte.toNat]? = some (some d)) ∧
  (let roles : List Role := [.unassigned, .entry, .exit, .runinA, .runinB, .noise, .leakA, .leakB, .supervisor]
   let stages : List (Option Stage) := [none, some .runin, some .noise, some .leak]
   let stageStates : List (Option StageState) :=
     [none, some .opened, some .claimed, some .running, some .passed, some .failed, some .waived]
   let channels : List (Option ChannelId) := [none, some .ra, some .rb, some .n, some .la, some .lb]
   let verdicts : List (Option Verdict) := [none, some .pending, some .pass, some .rework, some .hold]
   let endCodes : List (Option EndCode) := [none, some .pass, some .fail, some .cutShort]
   let causes : List Cause :=
     [.none, .torque, .speed, .oilTemp, .bearingTemp, .sensor, .equipment, .stepLost, .level, .band, .unsteady, .format,
       .noTach, .grossLeak, .decay, .overpressure, .noReading, .station, .timeout, .reset, .damaged, .forced]
   (∀ r : Role, roles[r.byte.toNat]? = some r) ∧ (∀ t : Stage, stages[t.byte.toNat]? = some (some t)) ∧
   (∀ x : StageState, stageStates[x.byte.toNat]? = some (some x)) ∧
   (∀ c : Option ChannelId, channels[(channelByte c).toNat]? = some c) ∧
   (∀ v : Verdict, verdicts[v.byte.toNat]? = some (some v)) ∧
   (∀ e : EndCode, endCodes[e.num]? = some (some e)) ∧ ∀ c : Cause, causes[c.num]? = some c) ∧
  (let flanks : List (Option Flank) := [none, some .drive, some .coast]
   let schemes : List Scheme := [.rotating, .fixed, .grouped, .portOrder]
   let directions : List Direction := [.write, .read]
   let tables : List Table := [.general, .steps, .noise, .bands, .leak]
   (∀ f : Flank, flanks[f.byte.toNat]? = some (some f)) ∧ (∀ x : Scheme, schemes[x.byte.toNat]? = some x) ∧
   (∀ b : Byte, Direction.ofByte b = directions[b.toNat]?) ∧ (∀ t : Table, tables[t.byte.toNat]? = some t) ∧
   (∀ m : AudioMode, [AudioMode.slave, .master][m.byte.toNat]? = some m) ∧
   [none, some WordWidth.w16, some .w24, some .w32].map widthByte = [0, 16, 24, 32] ∧
   (∀ f : Framing, [Framing.stereo, .mono][f.byte.toNat]? = some f) ∧
   (∀ q : AwsLevel, [AwsLevel.low, .high][q.byte.toNat]? = some q) ∧
   ∀ r : AudioSource, [AudioSource.left, .right, .mean][r.byte.toNat]? = some r) ∧
  ((∀ x : ChanState, [ChanState.idle, .claimed, .running, .ending][x.byte.toNat]? = some x) ∧
   (∀ steps bands : Nat, [BankState.empty, .opened, .ready steps bands].map BankState.byte = [0, 1, 2]) ∧
   (∀ k : ErrorKind, [none, some ErrorKind.correctable, some .uncorrectable][k.byte.toNat]? = some (some k)) ∧
   ∀ k : NoticeKind, [none, some NoticeKind.verdict, some .lapse, some .fault, some .stray][k.byte.toNat]? =
     some (some k)) ∧
  ((∀ v : Nat, bytesOf 0 v = []) ∧
   (∀ n v : Nat, bytesOf (n + 1) v = bytesOf n (v / 256) ++ [BitVec.ofNat 8 v]) ∧
   (∀ (n : Nat) (v : Int), bytesOfInt n v = bytesOf n (v % 256 ^ n).toNat) ∧
   natOf [] = 0 ∧ (∀ (bs : List Byte) (b : Byte), natOf (bs ++ [b]) = 256 * natOf bs + b.toNat) ∧
   (∀ w : Word, bytesOfWord w = bytesOf 4 w.toNat) ∧ wordsOf [] = [] ∧
   (∀ (w : Word) (rest : List Byte), wordsOf (bytesOfWord w ++ rest) = w :: wordsOf rest) ∧
   (∀ h : Handle, h.bytes = [BitVec.ofNat 8 h.slot.val, h.gen]) ∧ [false, true].map boolByte = [0, 1] ∧
   dispositionByte none = 0xFF ∧ (∀ b : BankId, dispositionByte (some b) = BitVec.ofNat 8 b.val) ∧
   ∀ b : Byte, isSerialByte b = true ↔
     (0x30 ≤ b.toNat ∧ b.toNat ≤ 0x39) ∨ (0x41 ≤ b.toNat ∧ b.toNat ≤ 0x5A)) ∧
  (∀ f : StepFields, f.bytes = bytesOf 1 f.direction ++ bytesOf 2 f.speed ++ bytesOf 2 f.tolerance ++
    bytesOfInt 2 f.torque ++ bytesOfInt 2 f.lower ++ bytesOfInt 2 f.upper ++ bytesOf 2 f.oilMax ++
    bytesOf 2 f.bearingMax ++ bytesOf 2 f.durationS ++ bytesOf 2 f.settleMs ++ bytesOf 2 f.warm) ∧
  (let bit := fun (c : BitVec 16) (_ : Nat) => if c.getLsbD 15 then (c <<< 1) ^^^ 0x1021 else c <<< 1
   (∀ f : Frame,
      let body := [f.kind.byte, f.tag, BitVec.ofNat 8 f.payload.length, f.code] ++ f.payload
      f.line = (0xA5 :: (body ++ bytesOf 2 (crc16 body).toNat)).map fun b => ⟨b, true⟩) ∧
   crc16 [] = 0xFFFF ∧ crc16 [0x31, 0x32, 0x33, 0x34, 0x35, 0x36, 0x37, 0x38, 0x39] = 0x29B1 ∧
   ∀ (bs : List Byte) (b : Byte),
     crc16 (bs ++ [b]) = (List.range 8).foldl bit (crc16 bs ^^^ (b.zeroExtend 16 <<< 8)))

/-- R161: a received REQUEST frame meets the port's four checks in order; the first that fails gives the port's own
answer, and a request that passes them becomes the held request. -/
def Obligations.RequestFrameIsAnsweredByThePortOrHeld : Prop :=
  ∀ (p : PortId) (tag code : Byte) (payload : List Byte) (s : State),
    s.resetLow = false → (s.port p).rx = none → payload.length ≤ 64 →
    ((s.port p).held.isSome = true →
      exec (.requestFrame p tag code payload) s = .next (s.hand p ⟨.answer, tag, 1, []⟩)) ∧
    ((s.port p).held = none → (∀ r : Request, r.code ≠ code.toNat) →
      exec (.requestFrame p tag code payload) s = .next (s.hand p ⟨.answer, tag, 3, []⟩)) ∧
    ∀ r : Request, (s.port p).held = none → r.code = code.toNat →
      (r.permitted (s.port p).role = false →
        exec (.requestFrame p tag code payload) s = .next (s.hand p ⟨.answer, tag, 2, []⟩)) ∧
      (r.permitted (s.port p).role = true → r.lengthOk payload.length = false →
        exec (.requestFrame p tag code payload) s = .next (s.hand p ⟨.answer, tag, 3, []⟩)) ∧
      (r.permitted (s.port p).role = true → r.lengthOk payload.length = true →
        exec (.requestFrame p tag code payload) s =
          .next (s.setPort p { s.port p with held := some ⟨tag, r, payload⟩ }))

/-- R158, R159: the bytes of any frame of at most 64 payload bytes, put on an idle line, are received as exactly that
frame, whatever its bytes are; a REQUEST goes to the checks of R161, a READING to R165 or, where R159 says so, to the
garbled flag, and a kind the 4120 does not take to the garbled flag. (A kind byte that is none of 1 to 5 is a frame of
no kind: DiscardedFramesSetTheGarbledFlag. That a discarded frame of a kind the 4120 does not take, or a READING of a
wrong code or length, ends with the last byte of its check word, so that none of its bytes begins another frame, is the
model's choice: entry 6.) -/
def Obligations.EveryFrameOnTheLineIsReceivedAsItself : Prop :=
  ∀ (f : Frame) (p : PortId) (s : State), f.payload.length ≤ 64 → (s.port p).rx = none →
    s.receiveLine p f.line =
      match f.kind with
      | .request => s.takeRequest p f.tag f.code f.payload
      | .reading =>
        if f.code ≠ 0 ∨ ∃ n ∈ (s.port p).role.readingLength, n ≠ f.payload.length then s.setGarbled p
        else s.takeReading p f.payload
      | .answer | .directive | .notice => s.setGarbled p

/-- R159: what is discarded sets the garbled flag and ends the assembly: a byte with no stop bit, a check word that does
not match, a kind byte that is none of 1 to 5 (with the check word right), a header's length above 64, 2 ms without a
byte. Bytes met while no frame is being assembled are passed over
(of an A5h with no stop bit there, see entry 7; the length is met at the header's last byte, entry 6). -/
def Obligations.DiscardedFramesSetTheGarbledFlag : Prop :=
  ∀ (p : PortId) (s : State), s.resetLow = false →
    ((s.port p).rx.isSome = true → ∀ b : Byte, exec (.garbledFrame p [⟨b, false⟩]) s =
      .next (s.setPort p { s.port p with rx := none, garbled := true })) ∧
    ((s.port p).rx.isSome = true → exec (.interbyteTimeout p) s =
      .next (s.setPort p { s.port p with rx := none, garbled := true })) ∧
    ((s.port p).rx = none → ∀ (f : Frame) (w : List Byte), f.payload.length ≤ 64 → w.length = 2 →
      w ≠ checkBytes f.body →
      exec (.garbledFrame p ((0xA5 :: (f.body ++ w)).map fun b => ⟨b, true⟩)) s =
        .next (s.setPort p { s.port p with garbled := true })) ∧
    ((s.port p).rx = none → ∀ (kind tag code : Byte) (payload : List Byte), payload.length ≤ 64 →
      (kind = 0 ∨ 5 < kind.toNat) →
      let body : List Byte := [kind, tag, BitVec.ofNat 8 payload.length, code] ++ payload
      exec (.garbledFrame p ((0xA5 :: (body ++ checkBytes body)).map fun b => ⟨b, true⟩)) s =
        .next (s.setPort p { s.port p with garbled := true })) ∧
    ((s.port p).rx = none → ∀ kind tag length code : Byte, 64 < length.toNat →
      exec (.garbledFrame p ([0xA5, kind, tag, length, code].map fun b => ⟨b, true⟩)) s =
        .next (s.setPort p { s.port p with garbled := true })) ∧
    ((s.port p).rx = none → ∀ b : Byte, b ≠ 0xA5 → ∀ stop : Bool,
      exec (.garbledFrame p [⟨b, stop⟩]) s = .next s)

/-- R160, R184: a port sends the frames handed to it in the order they were handed: a frame joins at the tail, and the
one sent is the oldest. A raised notice is handed to exactly the ports of its kind's port set, while the kind is
enabled; a port that already holds 8 unsent notices loses it and gets its notice overrun flag set; nothing else
changes. (That a notice whose frame is being sent still counts among the 8 is DEDUCED: entry 8.) -/
def Obligations.PortsSendInOrderAndNoticesGoToTheirPortSet : Prop :=
  (∀ (p : PortId) (s : State),
     (∀ f : Frame, ((s.hand p f).port p).tx = (s.port p).tx ++ [f]) ∧
     (s.resetLow = false → ∀ (f : Frame) (rest : List Frame), (s.port p).tx = f :: rest →
       exec (.frameSent p) s = .next (s.setPort p { s.port p with tx := rest }))) ∧
  ∀ (s : State) (k : NoticeKind) (name : List Byte) (detail : Byte) (p : PortId),
    let frame : Frame := ⟨.notice, 0, k.byte, name ++ [detail]⟩
    let t := s.raise k name detail
    ((s.router.route k).enable = true → (s.router.route k).ports.getLsbD p.val = true →
      ((s.port p).unsentNotices < 8 → t.port p = { s.port p with tx := (s.port p).tx ++ [frame] }) ∧
      (8 ≤ (s.port p).unsentNotices → t.port p = { s.port p with overrun := true })) ∧
    ((s.router.route k).enable = false ∨ (s.router.route k).ports.getLsbD p.val = false → t.port p = s.port p) ∧
    { t with ports := s.ports } = s

/-- R70, R71: a RUNIN reading that arrives for a RUNNING channel joins the queue of fewer than 16; at a full queue it is
discarded and counted once on each of the five invalid counters, and the stage ends SENSOR where one of them reaches the
invalid limit of the file's bank (a counter past the limit is taken as at it: entry 17). R174, R69: what the reading's
12 bytes give: the step tag, and of each of the five values, in the table's order and with its flag's bit, the value
where the flag says valid and the value lies within its range, and otherwise none. -/
def Obligations.RunInReadingIsQueuedOrCounted : Prop :=
  (∀ tag valid v2 v3 v4 v5 v6 v7 v8 v9 v10 v11 : Byte,
    let r := runInReadingOf [tag, valid, v2, v3, v4, v5, v6, v7, v8, v9, v10, v11]
    let unsigned : Byte → Byte → Int := fun hi lo => 256 * hi.toNat + lo.toNat
    let signed : Byte → Byte → Int := fun hi lo => if hi.toNat < 128 then unsigned hi lo else unsigned hi lo - 65536
    let given : Nat → Int → Int → Int → Option Int := fun bit lo hi v =>
      if valid.getLsbD bit = true ∧ lo ≤ v ∧ v ≤ hi then some v else none
    r.tag = tag.toNat ∧ r.values.speed = given 0 0 3000 (unsigned v2 v3) ∧
    r.values.torque = given 1 (-30000) 30000 (signed v4 v5) ∧ r.values.oil = given 2 (-400) 2500 (signed v6 v7) ∧
    r.values.bearing1 = given 3 (-400) 2500 (signed v8 v9) ∧
    r.values.bearing2 = given 4 (-400) 2500 (signed v10 v11)) ∧
  ∀ (c : RunInCh) (p : PortId) (tag : Byte) (payload : List Byte) (s : State),
    s.resetLow = false → (s.port p).rx = none → (s.port p).role = c.id.role → payload.length = 12 →
    (s.chan c.id).state = .running →
    let m := s.monitor c
    let n := m.invalid
    let counted : Five Nat := ⟨n.speed + 1, n.torque + 1, n.oil + 1, n.bearing1 + 1, n.bearing2 + 1⟩
    let limit := (s.bankOf c.id).contents.invalidLimit
    let t := s.setMonitor c { m with invalid := counted }
    (m.queue.length < 16 → exec (.readingFrame p tag payload) s =
      .next (s.setMonitor c { m with queue := m.queue ++ [runInReadingOf payload] })) ∧
    (16 ≤ m.queue.length →
      ((∀ x ∈ [counted.speed, counted.torque, counted.oil, counted.bearing1, counted.bearing2], x < limit) →
        exec (.readingFrame p tag payload) s = .next t) ∧
      ((∃ x ∈ [counted.speed, counted.torque, counted.oil, counted.bearing1, counted.bearing2], limit ≤ x) →
        exec (.readingFrame p tag payload) s = .next (t.endStage c.id ⟨.cutShort, .sensor, none⟩)))

/-- R128, R165: a LEAK reading that arrives for a RUNNING channel in FILL, SETTLE or MEASURE joins the queue of fewer
than 16; at a full queue, in EVALUATE, for a channel that is not RUNNING, or at a port whose role takes no readings, a
reading is discarded and changes nothing. R159: a reading whose length is not that of its port's role sets the garbled
flag, and no frame is being assembled after it (that its assembly ends with the last byte of its check word is the
model's choice: entry 6). R174, R127: what the reading's 7 bytes give: its pressure and its housing temperature where
the flag says valid and both lie within their ranges, and otherwise an invalid reading. -/
def Obligations.ReadingIsQueuedForItsRunningChannelOrDiscarded : Prop :=
  (∀ valid p3 p2 p1 p0 t1 t0 : Byte,
    let raw : Int := 16777216 * p3.toNat + 65536 * p2.toNat + 256 * p1.toNat + p0.toNat
    let pressure : Int := if p3.toNat < 128 then raw else raw - 4294967296
    let rawTemperature : Int := 256 * t1.toNat + t0.toNat
    let temperature : Int := if t1.toNat < 128 then rawTemperature else rawTemperature - 65536
    leakReadingOf [valid, p3, p2, p1, p0, t1, t0] =
      if valid.getLsbD 0 = true ∧ (0 ≤ pressure ∧ pressure ≤ 1000000) ∧ -4000 ≤ temperature ∧ temperature ≤ 15000
      then some ⟨pressure.toNat, temperature⟩ else none) ∧
  ∀ (p : PortId) (tag : Byte) (payload : List Byte) (s : State),
    s.resetLow = false → (s.port p).rx = none → payload.length ≤ 64 →
    (∀ c : LeakCh, (s.port p).role = c.id.role → payload.length = 7 → (s.chan c.id).state = .running →
      (((s.leak c).phase ≠ some .evaluate ∧ (s.leak c).queue.length < 16) →
        exec (.readingFrame p tag payload) s =
          .next (s.setLeak c { s.leak c with queue := (s.leak c).queue ++ [leakReadingOf payload] })) ∧
      (((s.leak c).phase = some .evaluate ∨ 16 ≤ (s.leak c).queue.length) →
        exec (.readingFrame p tag payload) s = .next s)) ∧
    (∀ c : ChannelId, (s.port p).role = c.role → (s.port p).role.readingLength = some payload.length →
      (s.chan c).state ≠ .running → exec (.readingFrame p tag payload) s = .next s) ∧
    ((s.port p).role.readingLength = none → exec (.readingFrame p tag payload) s = .next s) ∧
    (∀ n ∈ (s.port p).role.readingLength, n ≠ payload.length →
      exec (.readingFrame p tag payload) s = .next (s.setPort p { s.port p with garbled := true }))

/-- R167: the oldest posting is granted before any request; otherwise one held request, by the scheme; otherwise
nothing; and a grant of a request makes its port the last granted one. -/
def Obligations.TheArbiterGrantsByItsScheme : Prop :=
  ∀ s : State,
    (∀ (q : Posting) (rest : List Posting), s.arbiter.postings = q :: rest → s.grant = some (.posting q)) ∧
    (s.arbiter.postings = [] → (∀ p : PortId, (s.port p).held = none) → s.grant = none) ∧
    (s.arbiter.postings = [] → ∀ (p : PortId) (h : Held), (s.port p).held = some h →
      (s.grant = some (.request p h) ↔
        ∀ q : PortId, (s.port q).held.isSome = true →
          match s.arbiter.scheme with
          | .rotating => turns s.arbiter.lastGranted p ≤ turns s.arbiter.lastGranted q
          | .fixed => s.priority q < s.priority p ∨ (s.priority q = s.priority p ∧ p ≤ q)
          | .grouped => s.priority q < s.priority p ∨ (s.priority q = s.priority p ∧
              turns s.arbiter.lastGranted p ≤ turns s.arbiter.lastGranted q)
          | .portOrder => p ≤ q)) ∧
    ∀ p : PortId, s.granting p = { s with arbiter := { s.arbiter with lastGranted := p } }

/-! ## Resets (R170, R171) -/

/-- R170: RESET# low gives every block its power-on state, and while it is low no command but the line's own two has
any effect (entry 15); RESET# high changes nothing but the line. The power-on values: ports (R160, R162, R167), files
(R25), stray switch (R156), banks (R26), windows (R42), default disposition (R43), cursor (R38), channels (R48),
monitors (R68), audio (R88), input section (R102), noise analyzer (R105), leak analyzers (R126), capture record
(R181), multi-notice switch (R183), routing table (R184). The queue of commands is the model's own and stays. -/
def Obligations.ResetGivesEveryBlockItsPowerOnValue : Prop :=
  ((∀ s : State, exec .resetAssert s = .next (State.powerOn s.pending true)) ∧
   (∀ s : State, exec .resetDeassert s = .next { s with resetLow := false }) ∧
   (∀ (c : Instr) (s : State), c ≠ .resetAssert → c ≠ .resetDeassert → s.resetLow = true → exec c s = .next s) ∧
   ∀ (q : List Instr) (low : Bool), let t := State.powerOn q low
     (∀ p : PortId, (t.port p).role = (if p = 0 then .supervisor else .unassigned) ∧ (t.port p).held = none ∧
       (t.port p).rx = none ∧ (t.port p).tx = [] ∧ (t.port p).garbled = false ∧ (t.port p).overrun = false) ∧
     t.arbiter.scheme = .rotating ∧ (∀ p : PortId, t.priority p = 0) ∧ t.arbiter.lastGranted = 7 ∧
     t.arbiter.postings = []) ∧
  let s := State.reset
  s.resetLow = false ∧
  (∀ i : SlotId, s.file i = none ∧ (s.slot i).gen = 0) ∧ s.engine.index = [] ∧ s.engine.lineOrder = [] ∧
  s.engine.admissions = 0 ∧ s.engine.strayEnabled = true ∧
  (∀ b : BankId, (s.bank b).state = .empty ∧ (s.bank b).users = 0) ∧
  (∀ i : Fin 8, s.store.windows[i] = ⟨false, 0, 0, 0⟩) ∧ s.store.fallback = none ∧ s.store.cursor = none ∧
  (∀ c : ChannelId, (s.chan c).state = .idle ∧ (s.chan c).binding = none ∧ (s.chan c).claimTimer = none ∧
    (s.chan c).stageTimer = none) ∧
  (∀ c : RunInCh, s.monitor c = .cleared) ∧
  s.audio = ⟨.slave, none, .stereo, .low, .left, 3, 60⟩ ∧
  s.input.detected = none ∧ s.input.edges = 0 ∧ s.input.watchdog = none ∧ s.input.fifo = [] ∧
  s.input.revolutionOpen = false ∧ s.input.markerPending = false ∧ s.input.spoilPending = false ∧
  s.noise = .cleared ∧ (∀ c : LeakCh, s.leak c = .cleared) ∧
  s.router.capture = none ∧ s.router.multi = false ∧ (∀ k : NoticeKind, s.router.route k = ⟨1, true⟩)

/-- R171: CELL RESET hands DONE first, drops the requests held at ports 1 to 7, leaves every channel IDLE with its
timers stopped and its analyzer cleared, empties the posting queue, makes the last granted port 7 and the cursor idle,
and keeps roles, scheme, priorities, flags (a notice it raises may set an overrun flag), frames, recipes, audio
configuration, routing, and the file table. A slot whose file no channel is bound to keeps its whole file, stage records
and damaged flag with it (R25), and the words of its record. R65: the bound stage of each channel gets the end CUT_SHORT
RESET with its END directive, or the end DAMAGED where the read of its file finds an uncorrectable error. (Attempts past
the retry limit are taken as at it: entry 17.) -/
def Obligations.CellResetEndsTheWorkAndKeepsTheRecords : Prop :=
  ∀ (ds : Disturbances) (s₀ : State) (p : PortId) (h : Held), s₀.grants .cellReset p h →
    let s := s₀.disturb ds
    ∃ t : State, exec (.cellReset ds) s₀ = .next t ∧
      (∀ c : ChannelId, t.chan c = .rest ∧ t.analyzerAtRest c) ∧
      t.arbiter.postings = [] ∧ t.arbiter.lastGranted = 7 ∧ t.store.cursor = none ∧
      (∀ q : PortId, q ≠ 0 → (t.port q).held = none) ∧ (t.port p).held = none ∧
      (p ≠ 0 → (t.port 0).held = (s.port 0).held) ∧
      (∀ q : PortId, (t.port q).role = (s.port q).role ∧ (t.port q).rx = (s.port q).rx ∧
        (t.port q).garbled = (s.port q).garbled ∧ ((s.port q).overrun = true → (t.port q).overrun = true) ∧
        (s.port q).tx <+: (t.port q).tx) ∧
      (s.port p).tx ++ [⟨.answer, h.tag, 0, []⟩] <+: (t.port p).tx ∧
      t.arbiter.scheme = s.arbiter.scheme ∧ t.arbiter.priorities = s.arbiter.priorities ∧
      t.audio = s.audio ∧ t.store.banks = s.store.banks ∧ t.store.windows = s.store.windows ∧
      t.store.fallback = s.store.fallback ∧
      t.engine.index = s.engine.index ∧ t.engine.lineOrder = s.engine.lineOrder ∧
      t.engine.admissions = s.engine.admissions ∧ t.engine.strayEnabled = s.engine.strayEnabled ∧
      (∀ i : SlotId, (t.slot i).gen = (s.slot i).gen ∧
        (t.file i).map (fun f => (f.serial, f.variant, f.order, f.bank, f.holds)) =
          (s.file i).map fun f => (f.serial, f.variant, f.order, f.bank, f.holds)) ∧
      (∀ i : SlotId, (∀ c : ChannelId, ∀ b ∈ (s.chan c).binding, b.handle.slot ≠ i) → t.slot i = s.slot i) ∧
      (∀ (c : ChannelId) (b : Binding) (f : FileRec) (rs : StageRecords),
        (s.chan c).binding = some b → s.fileAt b.handle = some f → f.records = some rs →
        let ended := fun cause : Cause => (⟨.directive, 0, 4,
          b.handle.bytes ++ [b.stage.byte] ++ bytesOf 1 3 ++ bytesOf 1 cause.num⟩ : Frame)
        ((∀ e ∈ (s.slot b.handle.slot).errors, e.multiple = false) →
          (∃ (f' : FileRec) (rs' : StageRecords), t.file b.handle.slot = some f' ∧ f'.records = some rs' ∧
            rs'.get b.stage = { rs.get b.stage with
              state := if (s.bank f.bank).contents.retryLimit b.stage ≤ (rs.get b.stage).attempts then .failed
                else .opened
              channel := none
              last := some ⟨.cutShort, .reset, none⟩ } ∧
            ∀ u : Stage, (∀ d : ChannelId, (s.chan d).binding ≠ some ⟨b.handle, u⟩) → rs'.get u = rs.get u) ∧
          ∀ q : PortId, s.portOf c = some q → ended .reset ∈ (t.port q).tx) ∧
        ((∃ e ∈ (s.slot b.handle.slot).errors, e.multiple = true) → s.boundTo b.handle = some c →
          (t.file b.handle.slot).map (·.records) = some none ∧
          ∀ q : PortId, s.portOf c = some q → ended .damaged ∈ (t.port q).tx)) ∧
      t.router.multi = s.router.multi ∧ (∀ k : NoticeKind, t.router.route k = s.router.route k)

/-! ## Axle files (chapters 1 and 8) -/

/-- R16 (with R1, R11, R13, R27): an ADMIT that passes every check opens the file in the lowest-numbered free slot with
the slot's generation and the next order number, enters it in the serial index and at the end of the line order list,
counts it in its bank, and answers DONE with its handle and order number, its record written with no word in error
(R178). No other slot and no other bank changes, nor any channel, analyzer or setting, nor the arbiter but for the last
granted port, nor any port but for its transmit side (where a VERDICT notice may join, or set its overrun flag) and the
asking port's hold. (An admission counter past 65535 is taken as at it: entry 17.) -/
def Obligations.AdmitOpensTheFile : Prop :=
  ∀ (s : State) (p : PortId) (h : Held) (serial : Serial) (v : Word) (i : SlotId) (b : BankId),
    s.grants .admitAxle p h → serial.length = 12 → h.payload = serial ++ bytesOfWord v →
    serial.all isSerialByte = true → s.find serial = none →
    s.file i = none → (∀ j : SlotId, j < i → (s.file j).isSome = true) →
    s.store.choose v = some b → (s.bank b).isReady = true →
    ∃ t : State, exec .admitAxle s = .next t ∧
      (∃ f, t.file i = some f ∧ f.serial = serial ∧ f.variant = v ∧ f.bank = b ∧ f.holds = [] ∧
        f.order = (if 65535 ≤ s.engine.admissions then 1 else s.engine.admissions + 1) ∧
        f.records = some (.fresh (s.bank b).contents) ∧ f.verdict = f.verdictNow) ∧
      (t.slot i).gen = (s.slot i).gen ∧ (t.slot i).errors = [] ∧ (∀ j : SlotId, j ≠ i → t.slot j = s.slot j) ∧
      t.engine.admissions = (if 65535 ≤ s.engine.admissions then 1 else s.engine.admissions + 1) ∧
      t.engine.index = s.engine.index ++ [(serial, i)] ∧ t.engine.lineOrder = s.engine.lineOrder ++ [i] ∧
      t.bank b = { s.bank b with users := (s.bank b).users + 1 } ∧ (∀ k : BankId, k ≠ b → t.bank k = s.bank k) ∧
      t.arbiter = (s.granting p).arbiter ∧
      (∀ q : PortId, { t.port q with
          tx := (s.port q).tx, overrun := (s.port q).overrun, held := (s.port q).held } = s.port q ∧
        (s.port q).tx <+: (t.port q).tx ∧ ((s.port q).overrun = true → (t.port q).overrun = true) ∧
        (q ≠ p → (t.port q).held = (s.port q).held)) ∧
      (t.port p).held = none ∧
      (t.port p).tx.getLast? = some ⟨.answer, h.tag, 0, (s.handleOf i).bytes ++
        bytesOf 2 (if 65535 ≤ s.engine.admissions then 1 else s.engine.admissions + 1)⟩ ∧
      t.chans = s.chans ∧ t.monitors = s.monitors ∧ t.noise = s.noise ∧ t.input = s.input ∧ t.leaks = s.leaks ∧
      t.audio = s.audio ∧ t.router = s.router ∧ t.store.windows = s.store.windows ∧
      t.store.fallback = s.store.fallback ∧ t.store.cursor = s.store.cursor ∧
      t.engine.strayEnabled = s.engine.strayEnabled

/-- R15, R44: ADMIT's checks in their order; the first that fails gives the answer, and the request has no other
effect. The bank is that of the enabled window with the lowest number that hits, a window hitting when the variant
with every bit outside the mask set to 0 equals its base; where none hits, the default disposition gives the bank or
REFUSE. A bank that is READY is the new file's bank, one that is not gives NOT_READY, and REFUSE gives NO_RECIPE. -/
def Obligations.AdmitChoosesItsBankOrIsRefusedByTheFirstFailingCheck : Prop :=
  (∀ (st : Store) (v : Word),
    (∀ w : Window, w.hits v = true ↔ w.enable = true ∧ v &&& w.mask = w.base) ∧
    (∀ i : Fin 8, st.windows[i].hits v = true → (∀ j : Fin 8, j < i → st.windows[j].hits v = false) →
      st.choose v = some st.windows[i].bank) ∧
    ((∀ i : Fin 8, st.windows[i].hits v = false) → st.choose v = st.fallback)) ∧
  ∀ (s : State) (p : PortId) (h : Held) (serial : Serial) (v : Word),
    s.grants .admitAxle p h → serial.length = 12 → h.payload = serial ++ bytesOfWord v →
    (serial.all isSerialByte = false → exec .admitAxle s = .next (s.refuses p h .malformed)) ∧
    (serial.all isSerialByte = true → (s.find serial).isSome = true →
      exec .admitAxle s = .next (s.refuses p h .exist)) ∧
    (serial.all isSerialByte = true → s.find serial = none → (∀ i : SlotId, (s.file i).isSome = true) →
      exec .admitAxle s = .next (s.refuses p h .full)) ∧
    (serial.all isSerialByte = true → s.find serial = none → (∃ i : SlotId, s.file i = none) →
      (s.store.choose v = none → exec .admitAxle s = .next (s.refuses p h .noRecipe)) ∧
      ∀ b : BankId, s.store.choose v = some b →
        ((s.bank b).isReady = false → exec .admitAxle s = .next (s.refuses p h .notReady)) ∧
        ((s.bank b).isReady = true → ∃ (t : State) (i : SlotId) (f : FileRec), exec .admitAxle s = .next t ∧
          s.file i = none ∧ t.file i = some f ∧ f.serial = serial ∧ f.variant = v ∧ f.bank = b))

/-- R17, R19, R37, R43, R104, R151, R182: the requests that only read. LOOKUP, LIST and REPORT change nothing but what
their read of the file does (R14); BANK STATUS, READ WINDOW, AUDIO STATUS and READ CAPTURE change nothing; each
answers with its data, or RANGE or UNKNOWN with what the rule gives. R175: the 40 bytes of the file summary, bytes 29
to 39 of a damaged file 0. -/
def Obligations.ReadingRequestsAnswerAndChangeNothingElse : Prop :=
  (∀ (s₀ : State) (p : PortId) (h : Held) (ds : Disturbances),
    let s := s₀.disturb ds
    (s.grants .lookup p h →
      (s.find (field h.payload 0 12) = none → exec (.lookup ds) s₀ = .next (s.refuses p h .unknown)) ∧
      ∀ (i : SlotId) (f : FileRec), s.find (field h.payload 0 12) = some i →
        let r := (s.granting p).readFile (.request .lookup) i
        r.file i = some f →
        exec (.lookup ds) s₀ = .next (r.answer p h.tag .done (f.summary (s.handleOf i) (s.position i)))) ∧
    (s.grants .report p h →
      (s.find (field h.payload 0 12) = none → exec (.report ds) s₀ = .next (s.refuses p h .unknown)) ∧
      ∀ (i : SlotId) (f : FileRec), s.find (field h.payload 0 12) = some i →
        let r := (s.granting p).readFile (.request .report) i
        r.file i = some f → exec (.report ds) s₀ = .next (r.answer p h.tag .done (f.report (s.position i)))) ∧
    (s.grants .list p h →
      (s.engine.lineOrder.length ≤ byteAt h.payload 0 → exec (.list ds) s₀ =
        .next ((s.granting p).answer p h.tag .range (bytesOf 1 s.engine.lineOrder.length))) ∧
      ∀ (i : SlotId) (f : FileRec), s.engine.lineOrder[byteAt h.payload 0]? = some i →
        let r := (s.granting p).readFile (.request .list) i
        r.file i = some f →
        exec (.list ds) s₀ = .next (r.answer p h.tag .done (bytesOf 1 s.engine.lineOrder.length ++ f.serial ++
          (s.handleOf i).bytes ++ [f.verdict.byte] ++ f.activeBytes)))) ∧
  (∀ (f : FileRec) (at_ : Handle) (position : Nat), f.serial.length = 12 → f.holds.length ≤ 4 →
    let d := f.summary at_ position
    let entry := fun r : StageRecord => [r.state.byte, BitVec.ofNat 8 r.attempts, BitVec.ofNat 8 r.reopens]
    d.length = 40 ∧ field d 0 12 = f.serial ∧ field d 12 2 = [BitVec.ofNat 8 at_.slot.val, at_.gen] ∧
    field d 14 4 = bytesOfWord f.variant ∧ field d 18 2 = bytesOf 2 f.order ∧
    field d 20 4 = [BitVec.ofNat 8 f.bank.val, f.verdict.byte, if f.records = none then 1 else 0,
      BitVec.ofNat 8 f.holds.length] ∧
    field d 24 4 = f.holds.map (BitVec.ofNat 8) ++ List.replicate (4 - f.holds.length) 0 ∧
    field d 28 1 = [BitVec.ofNat 8 position] ∧
    (f.records = none → d.drop 29 = List.replicate 11 0) ∧
    ∀ rs : StageRecords, f.records = some rs →
      d.drop 31 = entry rs.runin ++ entry rs.noise ++ entry rs.leak ∧
      ((∀ t : Stage, (rs.get t).state.active = false) → field d 29 2 = [0, 0]) ∧
      ∀ t : Stage, (rs.get t).state.active = true → (∀ u : Stage, u ≠ t → (rs.get u).state.active = false) →
        field d 29 2 = [t.byte, channelByte (rs.get t).channel]) ∧
  ∀ (s : State) (p : PortId) (h : Held),
    (s.grants .bankStatus p h →
      (8 ≤ byteAt h.payload 0 → exec .bankStatus s = .next (s.refuses p h .range)) ∧
      ∀ b : BankId, byteAt h.payload 0 = b.val →
        exec .bankStatus s = .next ((s.granting p).answer p h.tag .done
          ([(s.bank b).state.byte] ++ bytesOf 1 (s.bank b).users ++ bytesOf 1 (s.bank b).stepCount ++
            bytesOf 1 (s.bank b).bandCount))) ∧
    (s.grants .readWindow p h →
      (8 ≤ byteAt h.payload 0 → exec .readWindow s = .next (s.refuses p h .range)) ∧
      ∀ i : Fin 8, byteAt h.payload 0 = i.val →
        exec .readWindow s = .next ((s.granting p).answer p h.tag .done
          ([boolByte s.store.windows[i].enable] ++ bytesOfWord s.store.windows[i].base ++
            bytesOfWord s.store.windows[i].mask ++ bytesOf 1 s.store.windows[i].bank.val ++
            [dispositionByte s.store.fallback]))) ∧
    (s.grants .audioStatus p h → exec .audioStatus s = .next ((s.granting p).answer p h.tag .done
      ([s.audio.mode.byte, widthByte s.audio.width, s.audio.framing.byte, s.audio.leftLevel.byte,
        s.audio.source.byte, s.audio.div] ++ bytesOf 1 s.audio.pulses ++
        [(s.chan .n).state.byte, widthByte (if s.audio.width.isSome then s.audio.width else s.input.detected)]))) ∧
    (s.grants .readCapture p h → exec .readCapture s =
      .next ((s.granting p).answer p h.tag .done (captureBytes s.router.capture)))

/-- R20, R21: HOLD FILE and LIFT HOLD in their orders of checks; the reason appended at the end of the holds list, or
removed with the others in their order, the verdict recomputed, DONE answered. -/
def Obligations.HoldsAreAddedAndLiftedInOrder : Prop :=
  ∀ (s₀ : State) (p : PortId) (h : Held) (ds : Disturbances) (serial : Serial) (b : Byte),
    let s := s₀.disturb ds
    serial.length = 12 → h.payload = serial ++ [b] →
    (s.grants .holdFile p h →
      ((b = 0 ∨ 15 < b.toNat) → exec (.holdFile ds) s₀ = .next (s.refuses p h .range)) ∧
      (1 ≤ b.toNat → b.toNat ≤ 15 →
        (s.find serial = none → exec (.holdFile ds) s₀ = .next (s.refuses p h .unknown)) ∧
        ∀ (i : SlotId) (f : FileRec), s.find serial = some i →
          let r := (s.granting p).readFile (.request .holdFile) i
          r.file i = some f →
          (b.toNat ∈ f.holds → exec (.holdFile ds) s₀ = .next (r.answer p h.tag .done [])) ∧
          (b.toNat ∉ f.holds → 4 ≤ f.holds.length → exec (.holdFile ds) s₀ = .next (r.answer p h.tag .full [])) ∧
          (b.toNat ∉ f.holds → f.holds.length < 4 → exec (.holdFile ds) s₀ =
            .next (((r.setFile i { f with holds := f.holds ++ [b.toNat] }).recompute i).answer p h.tag .done [])))) ∧
    (s.grants .liftHold p h →
      ((b = 0 ∨ 15 < b.toNat) → exec (.liftHold ds) s₀ = .next (s.refuses p h .range)) ∧
      (1 ≤ b.toNat → b.toNat ≤ 15 →
        (s.find serial = none → exec (.liftHold ds) s₀ = .next (s.refuses p h .unknown)) ∧
        ∀ (i : SlotId) (f : FileRec), s.find serial = some i →
          let r := (s.granting p).readFile (.request .liftHold) i
          r.file i = some f →
          (b.toNat ∉ f.holds → exec (.liftHold ds) s₀ = .next (r.answer p h.tag .state [])) ∧
          ∀ before after : List Nat, f.holds = before ++ b.toNat :: after → b.toNat ∉ before →
            exec (.liftHold ds) s₀ =
              .next (((r.setFile i { f with holds := before ++ after }).recompute i).answer p h.tag .done [])))

/-- R23, R24: REOPEN STAGE in its order of checks; the FAILED stage becomes OPEN with attempts 0 and one more reopen,
its last outcome and the other stages kept, the verdict recomputed, DONE answered. (A reopen count past 3 is taken as at
it: entry 17.) -/
def Obligations.ReopenStageOpensAFailedStageAtMostThreeTimes : Prop :=
  ∀ (s₀ : State) (p : PortId) (h : Held) (ds : Disturbances) (serial : Serial) (b : Byte),
    let s := s₀.disturb ds
    s.grants .reopenStage p h → serial.length = 12 → h.payload = serial ++ [b] →
    ((∀ t : Stage, t.byte ≠ b) → exec (.reopenStage ds) s₀ = .next (s.refuses p h .range)) ∧
    ∀ t : Stage, t.byte = b →
      (s.find serial = none → exec (.reopenStage ds) s₀ = .next (s.refuses p h .unknown)) ∧
      ∀ (i : SlotId) (f : FileRec), s.find serial = some i →
        let r := (s.granting p).readFile (.request .reopenStage) i
        r.file i = some f →
        (f.records = none → exec (.reopenStage ds) s₀ = .next (r.answer p h.tag .damaged [])) ∧
        ∀ rs : StageRecords, f.records = some rs →
          ((rs.get t).state ≠ .failed → exec (.reopenStage ds) s₀ = .next (r.answer p h.tag .state [])) ∧
          ((rs.get t).state = .failed → 3 ≤ (rs.get t).reopens →
            exec (.reopenStage ds) s₀ = .next (r.answer p h.tag .limit [])) ∧
          ((rs.get t).state = .failed → (rs.get t).reopens < 3 →
            let x : StageRecord := { rs.get t with state := .opened, attempts := 0, reopens := (rs.get t).reopens + 1 }
            exec (.reopenStage ds) s₀ =
              .next (((r.setFile i { f with records := some (rs.set t x) }).recompute i).answer p h.tag .done []))

/-- R145, R6, R146: the verdict of a file is given by the first line of Table 8-1 that applies; a recomputation stores
it and raises one VERDICT notice, with the serial and the new verdict, exactly when it differs from the stored one. -/
def Obligations.TheVerdictFollowsItsTableAndNoticesItsChanges : Prop :=
  (∀ f : FileRec,
     (f.records = none ∨ f.holds ≠ [] → f.verdictNow = .hold) ∧
     ∀ rs : StageRecords, f.records = some rs → f.holds = [] →
       ((∃ t : Stage, (rs.get t).state = .failed) → f.verdictNow = .rework) ∧
       ((∀ t : Stage, (rs.get t).state = .passed ∨ (rs.get t).state = .waived) → f.verdictNow = .pass) ∧
       ((∀ t : Stage, (rs.get t).state ≠ .failed) →
         (∃ t : Stage, (rs.get t).state ≠ .passed ∧ (rs.get t).state ≠ .waived) → f.verdictNow = .pending)) ∧
  ∀ (s : State) (i : SlotId) (f : FileRec), s.file i = some f →
    (f.verdictNow = f.verdict → s.recompute i = s) ∧
    (f.verdictNow ≠ f.verdict → s.recompute i =
      (s.setFile i { f with verdict := f.verdictNow }).raise .verdict f.serial f.verdictNow.byte)

/-- R147, R148, R152, R155: RELEASE of a file with an active stage is answered IN_TEST; of any other live file it
answers DONE with the report, formed with the overtake count before the file's entry is removed, and retires the file,
discarding its record (R178).
A RELEASE whose serial the index does not find answers DONE with the stray report after one STRAY notice while the
stray switch is ENABLED, UNKNOWN with no notice while it is DISABLED; it changes no file, bank or list. -/
def Obligations.ReleaseReportsAndRetiresOrAnswersAStray : Prop :=
  (∀ (s₀ : State) (p : PortId) (h : Held) (ds : Disturbances) (i : SlotId) (f : FileRec),
     let s := s₀.disturb ds
     s.grants .release p h → s.find (field h.payload 0 12) = some i →
     let r := (s.granting p).readFile (.request .release) i
     r.file i = some f →
     (f.activeStage.isSome = true → exec (.release ds) s₀ = .next (r.answer p h.tag .inTest [])) ∧
     (f.activeStage = none → ∃ t : State, exec (.release ds) s₀ = .next t ∧
       t.slot i = ⟨(s.slot i).gen + 1, none, []⟩ ∧ (∀ j : SlotId, j ≠ i → t.slot j = r.slot j) ∧
       t.engine.index = s.engine.index.filter (fun e => e.1 != f.serial) ∧
       t.engine.lineOrder = s.engine.lineOrder.filter (fun j => j != i) ∧
       t.engine.admissions = s.engine.admissions ∧
       t.bank f.bank = { s.bank f.bank with users := (s.bank f.bank).users - 1 } ∧
       (∀ k : BankId, k ≠ f.bank → t.bank k = s.bank k) ∧
       t.port p = { r.port p with held := none, tx := (r.port p).tx ++
         [⟨.answer, h.tag, 0, f.report (s.engine.lineOrder.idxOf i)⟩] } ∧
       (∀ q : PortId, q ≠ p → t.port q = r.port q) ∧
       t.chans = r.chans ∧ t.arbiter = r.arbiter ∧ t.monitors = r.monitors ∧ t.input = r.input ∧ t.noise = r.noise ∧
       t.leaks = r.leaks ∧ t.router = r.router ∧ t.audio = s.audio)) ∧
  ∀ (s₀ : State) (p : PortId) (h : Held) (ds : Disturbances) (serial : Serial),
    let s := s₀.disturb ds
    s.grants .release p h → serial.length = 12 → h.payload = serial → s.find serial = none →
    (s.engine.strayEnabled = true → exec (.release ds) s₀ =
      .next (((s.granting p).raise .stray serial (BitVec.ofNat 8 p.val)).answer p h.tag .done
        (serial ++ List.replicate 6 0 ++ [0xFF, 5, 2, 0xFF] ++ List.replicate 41 0))) ∧
    (s.engine.strayEnabled = false → exec (.release ds) s₀ = .next (s.refuses p h .unknown))

/-- R149: the report verdict is formed from the file's stored verdict: PASS, REWORK, or INCOMPLETE for PENDING and HOLD,
and INCOMPLETE in a stray report. Beside it, of R153 and R176: the layout of the 63 bytes of the report of a file whose
last summaries are those of their stages, with its header (Table 9-11), the hold reasons one per half byte, the three
stage blocks in their places, all 0 for a damaged file; the layout of a stage block (Table 9-12), which RESULT answers
too (R67, R177): state, channel, attempts and reopen count in the halves of a byte, end code and cause in one byte, and
the fields of the summary, 0 where the last outcome or its summary is absent; and the bytes of a stray report. -/
def Obligations.TheReportIsFormedFromTheStoredVerdict : Prop :=
  let size : Stage → Nat := fun t => match t with
    | .runin => 11
    | .noise => 16
    | .leak => 11
  (∀ (f : FileRec) (overtake : Nat), f.serial.length = 12 →
    (∀ rs ∈ f.records, ∀ t ∈ allStages, ∀ e ∈ (rs.get t).last, ∀ x ∈ e.summary, x.stage = t) →
    let d := f.report overtake
    let block : Stage → List Byte := fun t => blockOf t (f.records.map fun rs => rs.get t)
    d.length = 63 ∧ field d 0 12 = f.serial ∧ field d 12 4 = bytesOfWord f.variant ∧ field d 16 2 = bytesOf 2 f.order ∧
    d.getD 18 0 = BitVec.ofNat 8 f.bank.val ∧
    d.getD 19 0 =
      (match f.verdict with
        | .pass => 2
        | .rework => 3
        | .pending => 5
        | .hold => 5) ∧
    d.getD 20 0 = (if f.records = none then 1 else 0) ∧ d.getD 21 0 = BitVec.ofNat 8 overtake ∧
    d.getD 22 0 = BitVec.ofNat 8 f.holds.length ∧
    (f.holds.length ≤ 4 → (∀ r ∈ f.holds, r ≤ 15) → ∀ i : Nat, i < 4 →
      let pair := (d.getD (23 + i / 2) 0).toNat
      (if i % 2 = 0 then pair / 16 else pair % 16) = f.holds.getD i 0) ∧
    field d 25 11 = block .runin ∧ field d 36 16 = block .noise ∧ field d 52 11 = block .leak ∧
    (f.records = none → d.drop 25 = List.replicate 38 0)) ∧
  (∀ t : Stage, blockOf t none = List.replicate (size t) 0) ∧
  (∀ (t : Stage) (r : StageRecord), (∀ e ∈ r.last, ∀ x ∈ e.summary, x.stage = t) → r.attempts ≤ 15 → r.reopens ≤ 15 →
    let b := blockOf t (some r)
    b.length = size t ∧ b.getD 0 0 = r.state.byte ∧ b.getD 1 0 = channelByte r.channel ∧
    (b.getD 2 0).toNat % 16 = r.attempts ∧ (b.getD 2 0).toNat / 16 = r.reopens ∧
    (r.last = none → b.drop 3 = List.replicate (size t - 3) 0) ∧
    ∀ e : StageEnd, r.last = some e →
      (b.getD 3 0).toNat / 64 = e.code.num ∧ (b.getD 3 0).toNat % 64 = e.cause.num ∧
      b.drop 4 = (match e.summary with
        | none => List.replicate (size t - 4) 0
        | some (.runin torque oil bearing steps) =>
          bytesOf 2 torque ++ bytesOfInt 2 oil ++ bytesOfInt 2 bearing ++ bytesOf 1 steps
        | some (.noise drive coast none) => bytesOf 3 drive ++ bytesOf 3 coast ++ List.replicate 6 0
        | some (.noise drive coast (some w)) =>
          bytesOf 3 drive ++ bytesOf 3 coast ++ bytesOf 1 w.order ++ [w.flank.byte] ++ bytesOf 4 w.amplitude
        | some (.leak rate decay rise) => bytesOf 3 rate ++ bytesOf 3 decay ++ [if rise then 1 else 0])) ∧
  ∀ serial : Serial, serial.length = 12 →
    strayReport serial = serial ++ List.replicate 6 0 ++ [0xFF, 5, 2, 0xFF] ++ List.replicate 41 0

/-- R63, R154: FORCE RETIRE of a serial that is not live is answered UNKNOWN; of a live file it ends the bound channel's
claim engine-side with cause FORCED, the channel IDLE, its posting deleted and its END directive handed to its port,
retires the file and answers DONE. -/
def Obligations.ForceRetireEndsTheClaimAndRetiresTheFile : Prop :=
  ∀ (s₀ : State) (p : PortId) (h : Held) (ds : Disturbances),
    let s := s₀.disturb ds
    s.grants .forceRetire p h →
    (s.find (field h.payload 0 12) = none → exec (.forceRetire ds) s₀ = .next (s.refuses p h .unknown)) ∧
    ∀ (i : SlotId) (f : FileRec), s.find (field h.payload 0 12) = some i → s.file i = some f →
      let r := (s.granting p).readFile (.request .forceRetire) i
      ∃ t : State, exec (.forceRetire ds) s₀ = .next t ∧
        t.slot i = ⟨(s.slot i).gen + 1, none, []⟩ ∧ (∀ j : SlotId, j ≠ i → t.file j = s.file j) ∧
        t.engine.index = s.engine.index.filter (fun e => e.1 != f.serial) ∧
        t.engine.lineOrder = s.engine.lineOrder.filter (fun j => j != i) ∧
        (t.bank f.bank).users = (s.bank f.bank).users - 1 ∧ (∀ k : BankId, k ≠ f.bank → t.bank k = s.bank k) ∧
        (∀ c : ChannelId, r.boundTo (r.handleOf i) = some c →
          t.chan c = .rest ∧ (∀ q ∈ t.arbiter.postings, q.channel ≠ c) ∧
          ∀ (b : Binding) (q : PortId), (r.chan c).binding = some b → r.portOf c = some q →
            (⟨.directive, 0, 4, b.handle.bytes ++ [b.stage.byte, 3, 21]⟩ : Frame) ∈ (t.port q).tx) ∧
        (r.boundTo (r.handleOf i) = none → t.chans = r.chans ∧ t.arbiter = r.arbiter) ∧
        (t.port p).held = none ∧ (t.port p).tx.getLast? = some ⟨.answer, h.tag, 0, []⟩ ∧
        t.audio = s.audio ∧ t.store.cursor = s.store.cursor

/-- R156, R168, R183: SET STRAY and SET MULTI replace their switch and answer DONE with the setting held before; SET
ARBITER and SET PRIORITY refuse what names no scheme, port or priority with RANGE and otherwise replace the one
setting and answer DONE; all four are the supervisor's alone, and the last granted port is the granted port's as after
any grant. -/
def Obligations.SwitchesSchemeAndPrioritiesAreReplaced : Prop :=
  (∀ (s : State) (p : PortId) (h : Held) (b : Byte), h.payload = [b] →
     (s.grants .setStray p h →
       (1 < b.toNat → exec .setStray s = .next (s.refuses p h .range)) ∧
       ∀ on : Bool, b.toNat = on.toNat → exec .setStray s =
         .next (({ s.granting p with engine := { s.engine with strayEnabled := on } } : State).answer p h.tag .done
           [if s.engine.strayEnabled then 1 else 0])) ∧
     (s.grants .setMulti p h →
       (1 < b.toNat → exec .setMulti s = .next (s.refuses p h .range)) ∧
       ∀ on : Bool, b.toNat = on.toNat → exec .setMulti s =
         .next (({ s.granting p with router := { s.router with multi := on } } : State).answer p h.tag .done
           [if s.router.multi then 1 else 0]))) ∧
  (∀ q ∈ [Request.setStray, .setMulti, .setArbiter, .setPriority], ∀ r : Role,
    q.permitted r = true ↔ r = .supervisor) ∧
  ∀ (s : State) (p : PortId) (h : Held),
    (s.grants .setArbiter p h → ∀ b : Byte, h.payload = [b] →
      ((∀ x : Scheme, x.byte ≠ b) → exec .setArbiter s = .next (s.refuses p h .range)) ∧
      ∀ x : Scheme, x.byte = b → exec .setArbiter s =
        .next (({ s.granting p with arbiter := { (s.granting p).arbiter with scheme := x } } : State).answer
          p h.tag .done [])) ∧
    (s.grants .setPriority p h → ∀ port priority : Byte, h.payload = [port, priority] →
      ((7 < port.toNat ∨ 7 < priority.toNat) → exec .setPriority s = .next (s.refuses p h .range)) ∧
      ∀ (q : PortId) (n : Fin 8), port.toNat = q.val → priority.toNat = n.val →
        ∃ t : State, exec .setPriority s = .next (t.answer p h.tag .done []) ∧ t.priority q = n.val ∧
          (∀ x : PortId, x ≠ q → t.priority x = s.priority x) ∧
          { t with arbiter := { t.arbiter with priorities := s.arbiter.priorities } } = s.granting p)

/-! ## The recipe store (chapter 2) -/

/-- R28, R29: OPEN BANK and DISCARD BANK by the bank's state; a bank with users is answered IN_USE and kept; a cleared
bank's words are 0, and a cursor set on it keeps its position and direction with its staging emptied, in READ direction
with the entry of words 0 loaded again (its returned count 0: entry 14). -/
def Obligations.BanksAreOpenedAndDiscardedByTheirState : Prop :=
  ∀ (s : State) (p : PortId) (h : Held),
    (s.grants .openBank p h →
      (8 ≤ byteAt h.payload 0 → exec .openBank s = .next (s.refuses p h .range)) ∧
      ∀ b : BankId, byteAt h.payload 0 = b.val →
        ((s.bank b).state = .empty → exec .openBank s = .next
          (((s.granting p).setBank b { s.bank b with state := .opened, contents := .zero }).answer p h.tag .done [])) ∧
        ((s.bank b).isReady = true → (s.bank b).users = 0 → exec .openBank s =
          .next (((s.granting p).setBank b { s.bank b with state := .opened }).answer p h.tag .done [])) ∧
        ((s.bank b).isReady = true → 0 < (s.bank b).users →
          exec .openBank s = .next (s.refuses p h .inUse)) ∧
        ((s.bank b).state = .opened → exec .openBank s = .next (s.refuses p h .done))) ∧
    (s.grants .discardBank p h →
      (8 ≤ byteAt h.payload 0 → exec .discardBank s = .next (s.refuses p h .range)) ∧
      ∀ b : BankId, byteAt h.payload 0 = b.val →
        ((s.bank b).state = .empty → exec .discardBank s = .next (s.refuses p h .done)) ∧
        ((s.bank b).isReady = true → 0 < (s.bank b).users →
          exec .discardBank s = .next (s.refuses p h .inUse)) ∧
        ((s.bank b).state = .opened ∨ ((s.bank b).isReady = true ∧ (s.bank b).users = 0) →
          let cleared := (s.granting p).setBank b { s.bank b with state := .empty, contents := .zero }
          ((∀ cur ∈ s.store.cursor, cur.bank ≠ b) →
            exec .discardBank s = .next (cleared.answer p h.tag .done [])) ∧
          ∀ cur : Cursor, s.store.cursor = some cur → cur.bank = b →
            (cur.direction = .write → exec .discardBank s =
              .next ((cleared.setCursor (some { cur with staging := [] })).answer p h.tag .done [])) ∧
            (cur.direction = .read → cur.index < cur.table.entries → exec .discardBank s =
              .next ((cleared.setCursor (some { cur with
                staging := List.replicate cur.table.width 0, returned := 0 })).answer p h.tag .done [])) ∧
            (cur.direction = .read → cur.table.entries ≤ cur.index → exec .discardBank s =
              .next ((cleared.setCursor (some { cur with staging := [], returned := 0 })).answer p h.tag .done []))))

/-- R30: PUBLISH BANK in its order of checks; a bank that passes validation becomes READY with user count 0 and its
step and band counts, which DONE carries; one that does not stays OPEN and MALFORMED names the first bad item
(which that is: ValidContentsLieWithinTheirRanges). -/
def Obligations.PublishMakesAValidBankReady : Prop :=
  ∀ (s : State) (p : PortId) (h : Held), s.grants .publishBank p h →
    (8 ≤ byteAt h.payload 0 → exec .publishBank s = .next (s.refuses p h .range)) ∧
    ∀ b : BankId, byteAt h.payload 0 = b.val →
      ((s.bank b).state ≠ .opened → exec .publishBank s = .next (s.refuses p h .state)) ∧
      ((s.bank b).state = .opened →
        (∀ cur : Cursor, s.store.cursor = some cur → cur.bank = b → cur.direction = .write → cur.staging ≠ [] →
          exec .publishBank s = .next (s.refuses p h .state)) ∧
        ((∀ cur ∈ s.store.cursor, ¬(cur.bank = b ∧ cur.direction = .write ∧ cur.staging ≠ [])) →
          let c := (s.bank b).contents
          (∀ (t : Table) (i : Nat), c.firstBad = some (t, i) → exec .publishBank s =
            .next ((s.granting p).answer p h.tag .malformed ([t.byte] ++ bytesOf 1 i))) ∧
          (c.firstBad = none → exec .publishBank s = .next
            (((s.granting p).setBank b { s.bank b with state := .ready c.countSteps c.countBands, users := 0 }).answer
              p h.tag .done (bytesOf 1 c.countSteps ++ bytesOf 1 c.countBands)))))

/-- R31 to R36: validation goes through the items in R31's order: GENERAL's entry, and for each required stage the
entries of its tables, STEPS and BANDS up to their counts (entry 0 in any case). It passes exactly the contents of which
each item lies within the ranges of Tables 2-6 and 2-8 to 2-11, and otherwise names the first item that does not. The
same tables: each field is read from its word, or from its bytes of its word. R30: the step count is the number of STEPS
entries before the first of duration 0, the band count that of BANDS entries before the first of order 0, and the bands
of a READY bank are the entries up to its band count (R35). (An entry outside its table, in contents of no bank's
shape, reads as words of 0: entry 16.) -/
def Obligations.ValidContentsLieWithinTheirRanges : Prop :=
  (∀ c : Contents,
    let word : Table → Nat → Nat → Nat := fun t i j => (((c.table t).getD i []).getD j 0).toNat
    let signed : Table → Nat → Nat → Int := fun t i j => (((c.table t).getD i []).getD j 0).toInt
    (∀ t : Stage, let n : Nat := match t with
        | .runin => 0
        | .noise => 1
        | .leak => 2
      (c.requires t = true ↔ word .general 0 0 / 2 ^ n % 2 = 1) ∧ c.retryLimit t = word .general 0 (1 + n) ∧
      c.stageLimitMs t = 1000 * word .general 0 (5 + n)) ∧
    c.claimCode = word .general 0 4 % 256 ∧ c.persistence = word .general 0 4 / 256 % 256 ∧
    c.invalidLimit = word .general 0 4 / 65536 % 256 ∧
    (∀ i : Nat, c.step (i + 1) =
      { direction := word .steps i 0, speed := word .steps i 1, tolerance := word .steps i 2,
        torque := signed .steps i 3, lower := signed .steps i 4, upper := signed .steps i 5,
        oilMax := word .steps i 6, bearingMax := word .steps i 7, durationS := word .steps i 8 % 65536,
        settleMs := word .steps i 8 / 65536, warm := word .steps i 9 }) ∧
    c.noiseFields =
      { speed := word .noise 0 0, lmin := word .noise 0 1, lmax := word .noise 0 2, settle := word .noise 0 3,
        driveTarget := word .noise 0 4, flankSettle := word .noise 0 5, coastTarget := word .noise 0 6,
        rejectLimit := word .noise 0 7, driveLimit := word .noise 0 8, coastLimit := word .noise 0 9 } ∧
    (∀ i : Nat, bandFieldsOf (c.entry .bands i) =
      { order := word .bands i 0, driveLimit := word .bands i 1, coastLimit := word .bands i 2 }) ∧
    c.leakFields =
      { target := word .leak 0 0, tolerance := word .leak 0 1, fillMs := word .leak 0 2, settleMs := word .leak 0 3,
        dropMax := word .leak 0 4, measureMs := word .leak 0 5, volume := word .leak 0 6, leakLimit := word .leak 0 7,
        margin := word .leak 0 8 } ∧
    (c.countSteps ≤ (c.table .steps).length ∧ (∀ i : Nat, i < c.countSteps → word .steps i 8 % 65536 ≠ 0) ∧
      (c.countSteps < (c.table .steps).length → word .steps c.countSteps 8 % 65536 = 0)) ∧
    (c.countBands ≤ (c.table .bands).length ∧ (∀ i : Nat, i < c.countBands → word .bands i 0 ≠ 0) ∧
      (c.countBands < (c.table .bands).length → word .bands c.countBands 0 = 0)) ∧
    ∀ (k : Bank) (steps bands : Nat), k.contents = c → k.state = .ready steps bands →
      bands ≤ (c.table .bands).length →
      k.bands = (List.range bands).map fun i => bandFieldsOf (c.entry .bands i)) ∧
  ∀ c : Contents,
    let general : Prop :=
      ((c.table .general).getD 0 []).getD 0 0 ≤ 7 ∧ c.claimCode ≤ 7 ∧
      ((c.table .general).getD 0 []).getD 4 0 < 0x1000000 ∧
      (∀ t : Stage, c.requires t = true → 1 ≤ c.retryLimit t ∧ c.retryLimit t ≤ 3 ∧
        1000 ≤ c.stageLimitMs t ∧ c.stageLimitMs t ≤ 3600000) ∧
      (c.requires .noise = true → c.requires .runin = true) ∧
      (c.requires .runin = true → 1 ≤ c.persistence ∧ c.persistence ≤ 15 ∧ 1 ≤ c.invalidLimit ∧ c.invalidLimit ≤ 15)
    let step : Nat → Prop := fun i =>
      let f := c.step (i + 1)
      f.direction ≤ 1 ∧ f.speed ≤ 3000 ∧ f.tolerance ≤ 3000 ∧ -30000 ≤ f.lower ∧ f.lower ≤ f.torque ∧
      f.torque ≤ f.upper ∧ f.upper ≤ 30000 ∧ 1 ≤ f.oilMax ∧ f.oilMax ≤ 2000 ∧ 1 ≤ f.bearingMax ∧
      f.bearingMax ≤ 2000 ∧ 1 ≤ f.durationS ∧ f.durationS ≤ 3600 ∧ f.settleMs ≤ 30000 ∧
      f.settleMs < f.durationS * 1000 ∧ f.warm ≤ 2000 ∧ f.warm ≤ f.oilMax
    let noise : Prop :=
      let f := c.noiseFields
      1 ≤ f.speed ∧ f.speed ≤ 3000 ∧ 128 ≤ f.lmin ∧ f.lmin ≤ f.lmax ∧ f.lmax ≤ 4096 ∧ f.settle ≤ 255 ∧
      4 ≤ f.driveTarget ∧ f.driveTarget ≤ 1024 ∧ f.flankSettle ≤ 255 ∧ 4 ≤ f.coastTarget ∧ f.coastTarget ≤ 1024 ∧
      f.rejectLimit ≤ 1024 ∧ 1 ≤ f.driveLimit ∧ f.driveLimit ≤ 16777216 ∧ 1 ≤ f.coastLimit ∧ f.coastLimit ≤ 16777216
    let band : Nat → Prop := fun i =>
      let b := bandFieldsOf (c.entry .bands i)
      1 ≤ b.order ∧ b.order ≤ 63 ∧ b.driveLimit ≤ 16777216 ∧ b.coastLimit ≤ 16777216 ∧
      ∀ j : Nat, j < i → (bandFieldsOf (c.entry .bands j)).order ≠ b.order
    let leak : Prop :=
      let f := c.leakFields
      1 ≤ f.target ∧ f.tolerance ≤ 100000 ∧ f.tolerance ≤ f.target ∧ f.target + f.tolerance ≤ 1000000 ∧
      100 ≤ f.fillMs ∧ f.fillMs ≤ 600000 ∧ f.settleMs ≤ 600000 ∧ f.dropMax ≤ 1000000 ∧ 1000 ≤ f.measureMs ∧
      f.measureMs ≤ 600000 ∧ 1 ≤ f.volume ∧ f.volume ≤ 100000 ∧ f.leakLimit ≤ 9999999 ∧ f.margin ≤ 1000000 ∧
      f.tolerance < f.margin
    let good : Table × Nat → Prop := fun x => match x.1 with
      | .general => general
      | .steps => step x.2
      | .noise => noise
      | .bands => band x.2
      | .leak => leak
    let items : List (Table × Nat) := [(.general, 0)] ++
      (if c.requires .runin then (List.range (max 1 c.countSteps)).map fun i => (.steps, i) else []) ++
      (if c.requires .noise then (.noise, 0) :: (List.range (max 1 c.countBands)).map fun i => (.bands, i) else []) ++
      (if c.requires .leak then [(.leak, 0)] else [])
    (c.firstBad = none ↔ ∀ x ∈ items, good x) ∧
    ∀ (before after : List (Table × Nat)) (x : Table × Nat), items = before ++ x :: after →
      (∀ y ∈ before, good y) → ¬good x → c.firstBad = some x

/-- R39: CURSOR refuses what names no bank, table, direction or entry, and leaves the cursor as it stood; an accepted
one sets the cursor, in WRITE direction with empty staging, in READ direction with the entry loaded. -/
def Obligations.CursorIsSetOnAnEntry : Prop :=
  ∀ (s : State) (p : PortId) (h : Held) (bank table index direction : Byte),
    s.grants .cursor p h → h.payload = [bank, table, index, direction] →
    ((7 < bank.toNat ∨ 4 < table.toNat ∨ 1 < direction.toNat ∨
        (∃ t : Table, t.byte = table ∧ t.entries ≤ index.toNat)) →
      exec .cursor s = .next (s.refuses p h .range)) ∧
    ∀ (b : BankId) (t : Table), bank.toNat = b.val → t.byte = table → index.toNat < t.entries →
      (direction = 0 → exec .cursor s =
        .next (((s.granting p).setCursor (some ⟨b, t, index.toNat, .write, [], 0⟩)).answer p h.tag .done [])) ∧
      (direction = 1 → exec .cursor s = .next (((s.granting p).setCursor
        (some ⟨b, t, index.toNat, .read, (s.bank b).contents.entry t index.toNat, 0⟩)).answer p h.tag .done []))

/-- R40: DATA is refused MODE on an idle or READ cursor and STATE on a bank that is not OPEN; otherwise its words pass
through the cursor, DONE where every word was taken and RANGE where not, with the number taken and the index. The
words taken fill the entry at the index and the entries after it in order, up to the table's last; each entry is
written when its last word arrives, the words left over stay in staging, and no other entry changes. -/
def Obligations.DataFillsTheEntriesAtTheCursorInOrder : Prop :=
  (∀ (s : State) (p : PortId) (h : Held), s.grants .data p h →
     (s.store.cursor = none → exec .data s = .next (s.refuses p h .mode)) ∧
     ∀ cur : Cursor, s.store.cursor = some cur →
       (cur.direction = .read → exec .data s = .next (s.refuses p h .mode)) ∧
       (cur.direction = .write → (s.bank cur.bank).state ≠ .opened →
         exec .data s = .next (s.refuses p h .state)) ∧
       (cur.direction = .write → (s.bank cur.bank).state = .opened →
         let k := s.bank cur.bank
         let r := writeWords (wordsOf h.payload) k.contents cur
         exec .data s = .next ((((s.granting p).setBank cur.bank { k with contents := r.contents }).setCursor
           (some r.cursor)).answer p h.tag
             (if r.taken = (wordsOf h.payload).length then .done else .range)
             (bytesOf 1 r.taken ++ bytesOf 1 r.cursor.index)))) ∧
  ∀ (words : List Word) (c : Contents) (cur : Cursor), c.shaped → cur.ok → cur.direction = .write →
    let w := cur.table.width
    let r := writeWords words c cur
    let all := cur.staging ++ words.take r.taken
    r.taken = min words.length ((cur.table.entries - cur.index) * w - cur.staging.length) ∧
    r.cursor = { cur with index := cur.index + all.length / w, staging := all.drop (all.length / w * w) } ∧
    (∀ j : Nat, cur.index ≤ j → j < r.cursor.index →
      r.contents.entry cur.table j = (all.drop ((j - cur.index) * w)).take w) ∧
    (∀ j : Nat, j < cur.index ∨ r.cursor.index ≤ j → r.contents.entry cur.table j = c.entry cur.table j) ∧
    (∀ t : Table, t ≠ cur.table → r.contents.table t = c.table t) ∧ r.contents.shaped

/-- R41: READ DATA is refused RANGE for a count outside 1 to 15 and MODE on an idle or WRITE cursor; otherwise it
returns the next words, those of the staged entry and then of the entries after it, DONE where n were there and RANGE
where the table ended first; it changes no bank. -/
def Obligations.ReadDataReturnsTheNextWords : Prop :=
  ∀ (s : State) (p : PortId) (h : Held), s.grants .readData p h →
    let n := byteAt h.payload 0
    ((n = 0 ∨ 15 < n) → exec .readData s = .next (s.refuses p h .range)) ∧
    (1 ≤ n → n ≤ 15 →
      (s.store.cursor = none → exec .readData s = .next (s.refuses p h .mode)) ∧
      ∀ cur : Cursor, s.store.cursor = some cur →
        (cur.direction = .write → exec .readData s = .next (s.refuses p h .mode)) ∧
        (cur.direction = .read → cur.ok → (s.bank cur.bank).contents.shaped →
          let c := (s.bank cur.bank).contents
          let ahead := cur.staging.drop cur.returned ++ ((c.table cur.table).drop (cur.index + 1)).flatten
          ∃ after : Cursor, after.ok ∧ after.bank = cur.bank ∧ after.table = cur.table ∧ after.direction = .read ∧
            after.staging.drop after.returned ++ ((c.table cur.table).drop (after.index + 1)).flatten =
              ahead.drop n ∧
            exec .readData s = .next (((s.granting p).setCursor (some after)).answer p h.tag
              (if n ≤ ahead.length then .done else .range) ((ahead.take n).flatMap bytesOfWord))))

/-- R42, R43: SET WINDOW refuses numbers above 7 and an enable that names neither value with RANGE, then a base with a
bit where the mask has none with MALFORMED, and replaces all four fields; SET DEFAULT replaces the disposition. -/
def Obligations.WindowsAndDefaultAreReplacedWhole : Prop :=
  ∀ (s : State) (p : PortId) (h : Held),
    (s.grants .setWindow p h → ∀ (window enable bank : Byte) (base mask : Word),
      h.payload = [window, enable] ++ bytesOfWord base ++ bytesOfWord mask ++ [bank] →
      ((7 < window.toNat ∨ 1 < enable.toNat ∨ 7 < bank.toNat) → exec .setWindow s = .next (s.refuses p h .range)) ∧
      ∀ (i : Fin 8) (on : Bool) (b : BankId), window.toNat = i.val → enable.toNat = on.toNat → bank.toNat = b.val →
        (base &&& ~~~mask ≠ 0 → exec .setWindow s = .next (s.refuses p h .malformed)) ∧
        (base &&& ~~~mask = 0 → exec .setWindow s = .next
          (({ s.granting p with store := { s.store with
              windows := s.store.windows.set i.val ⟨on, base, mask, b⟩ i.isLt } } : State).answer p h.tag .done []))) ∧
    (s.grants .setDefault p h → ∀ d : Byte, h.payload = [d] →
      (7 < d.toNat → d ≠ 0xFF → exec .setDefault s = .next (s.refuses p h .range)) ∧
      (d = 0xFF → exec .setDefault s =
        .next (({ s.granting p with store := { s.store with fallback := none } } : State).answer p h.tag .done [])) ∧
      ∀ b : BankId, d.toNat = b.val → exec .setDefault s =
        .next (({ s.granting p with store := { s.store with fallback := some b } } : State).answer p h.tag .done []))

/-! ## Settings (chapters 5, 9, 10) -/

/-- R103: SET AUDIO refuses a field outside its values with RANGE, MASTER with width AUTO with MODE, and a channel N
that is not IDLE with IN_TEST; an accepted one replaces all seven fields, with the detected width none, the edge count
0 and no word-select period begun (R91). -/
def Obligations.SetAudioReplacesTheConfiguration : Prop :=
  ∀ (s : State) (p : PortId) (h : Held) (m w f q r d n : Byte), s.grants .setAudio p h →
    h.payload = [m, w, f, q, r, d, n] →
    ((1 < m.toNat ∨ (w ≠ 0 ∧ w ≠ 16 ∧ w ≠ 24 ∧ w ≠ 32) ∨ 1 < f.toNat ∨ 1 < q.toNat ∨ 2 < r.toNat ∨ n = 0 ∨
        240 < n.toNat) → exec .setAudio s = .next (s.refuses p h .range)) ∧
    ∀ cfg : AudioConfig, cfg.mode.byte = m → widthByte cfg.width = w → cfg.framing.byte = f → cfg.leftLevel.byte = q →
      cfg.source.byte = r → cfg.div = d → cfg.pulses = n.toNat → 1 ≤ cfg.pulses → cfg.pulses ≤ 240 →
      (cfg.mode = .master → cfg.width = none → exec .setAudio s = .next (s.refuses p h .mode)) ∧
      (¬(cfg.mode = .master ∧ cfg.width = none) →
        ((s.chan .n).state ≠ .idle → exec .setAudio s = .next (s.refuses p h .inTest)) ∧
        ((s.chan .n).state = .idle → exec .setAudio s =
          .next (({ s.granting p with
            audio := cfg
            input := { s.input with detected := none, edges := 0, place := .before, left := none } } : State).answer
              p h.tag .done [])))

/-- R162: SET ROLE in its order of checks; an accepted one gives the port the role and changes nothing else. (Of a port
that already holds the role, while that role's channel is bound, the table says IN_TEST and the sentence after it
accepted; the model answers IN_TEST, its own choice: entry 23.) -/
def Obligations.SetRoleKeepsEachRoleAtOnePort : Prop :=
  ∀ (s : State) (p : PortId) (h : Held) (port role : Byte), s.grants .setRole p h → h.payload = [port, role] →
    ((port = 0 ∨ 7 < port.toNat ∨ 7 < role.toNat) → exec .setRole s = .next (s.refuses p h .range)) ∧
    ∀ (q : PortId) (r : Role), q ≠ 0 → r ≠ .supervisor → port.toNat = q.val → role = r.byte →
      (∀ c : ChannelId, (s.port q).role = c.role → (s.chan c).state ≠ .idle →
        exec .setRole s = .next (s.refuses p h .inTest)) ∧
      ((∀ c : ChannelId, (s.port q).role = c.role → (s.chan c).state = .idle) →
        (r ≠ .unassigned → (∃ x : PortId, x ≠ q ∧ (s.port x).role = r) →
          exec .setRole s = .next (s.refuses p h .inUse)) ∧
        ((r = .unassigned ∨ ∀ x : PortId, x ≠ q → (s.port x).role ≠ r) → exec .setRole s =
          .next (((s.granting p).setPort q { s.port q with role := r }).answer p h.tag .done [])))

/-- R166, R177, R182, R185: STATUS answers DONE with its 30 bytes and clears the garbled and notice overrun flags of
every port, and nothing else. CLEAR CAPTURE empties the capture record and answers what it held; SET ROUTE replaces
one kind's port set, ENABLE SET and ENABLE CLEAR turn the enables of a kind set on and off, RANGE for what names no
kind. The capture record's five bytes: locked flag, kind, slot, syndrome and item, all 0 where it is unlocked. -/
def Obligations.StatusAndCaptureReportAndClearAndNoticesAreRouted : Prop :=
  (∀ (s : State) (p : PortId) (h : Held), s.grants .status p h →
     ∃ (t : State) (data : List Byte), exec .status s = .next (t.answer p h.tag .done data) ∧
       (∀ q : PortId, t.port q = { s.port q with garbled := false, overrun := false }) ∧
       { t with ports := s.ports } = s.granting p ∧
       data.length = 30 ∧
       (∀ q : PortId, (data.getD 0 0).getLsbD q.val = (s.port q).garbled ∧
         (data.getD 1 0).getLsbD q.val = (s.port q).overrun) ∧
       (∀ q : PortId, q ≠ 0 → data.getD (1 + q.val) 0 = (s.port q).role.byte) ∧
       data.getD 9 0 = s.arbiter.scheme.byte ∧
       (∀ q : PortId, (data.getD (10 + q.val) 0).toNat = s.priority q) ∧
       (data.getD 18 0).toNat = p.val ∧ data.getD 19 0 = 0 ∧
       data.drop 20 = [(s.chan .ra).state.byte, (s.chan .rb).state.byte, (s.chan .n).state.byte,
         (s.chan .la).state.byte, (s.chan .lb).state.byte, s.router.verdict.ports, s.router.lapse.ports,
         s.router.fault.ports, s.router.stray.ports, s.router.enables]) ∧
  (captureBytes none = [0, 0, 0, 0, 0] ∧ ∀ x : Capture, captureBytes (some x) =
    [1, match x.kind with
        | .correctable => 1
        | .uncorrectable => 2,
      BitVec.ofNat 8 x.slot.val, x.syndrome,
      match x.item with
        | .request r => BitVec.ofNat 8 r.code
        | .endPosting => 64
        | .lapsePosting => 65]) ∧
  ∀ (s : State) (p : PortId) (h : Held),
    (s.grants .clearCapture p h → exec .clearCapture s =
      .next (({ s.granting p with router := { s.router with capture := none } } : State).answer p h.tag .done
        (captureBytes s.router.capture))) ∧
    (s.grants .setRoute p h → ∀ kind ports : Byte, h.payload = [kind, ports] →
      ((kind = 0 ∨ 4 < kind.toNat) → exec .setRoute s = .next (s.refuses p h .range)) ∧
      ∀ k : NoticeKind, k.byte = kind → ∃ t : State, exec .setRoute s = .next (t.answer p h.tag .done []) ∧
        t.router.route k = { s.router.route k with ports := ports } ∧
        (∀ x : NoticeKind, x ≠ k → t.router.route x = s.router.route x) ∧
        t.router.capture = s.router.capture ∧ t.router.multi = s.router.multi ∧
        { t with router := s.router } = s.granting p) ∧
    ∀ (on : Bool) (c : Instr) (r : Request),
      (c = .enableSet ∧ r = .enableSet ∧ on = true) ∨ (c = .enableClear ∧ r = .enableClear ∧ on = false) →
      s.grants r p h → ∀ kinds : Byte, h.payload = [kinds] →
      (15 < kinds.toNat → exec c s = .next (s.refuses p h .range)) ∧
      (kinds.toNat ≤ 15 → ∃ t : State, exec c s = .next (t.answer p h.tag .done []) ∧
        (∀ k : NoticeKind, t.router.route k =
          { s.router.route k with
            enable := if kinds.getLsbD (k.byte.toNat - 1) then on else (s.router.route k).enable }) ∧
        t.router.capture = s.router.capture ∧ t.router.multi = s.router.multi ∧
        { t with router := s.router } = s.granting p)

/-! ## Claims and channels (chapter 3) -/

/-- R50: a CLAIM that passes every check sets the stage CLAIMED on the port's channel, binds the channel and starts its
claim start timer by the bank's code (stopped for code 7), and answers DONE with the handle and the setpoints of Table
3-4; attempts, reopen count and last outcome of the stage, and the other stages, stay. -/
def Obligations.ClaimReservesTheStageForTheChannel : Prop :=
  ∀ (s₀ : State) (p : PortId) (h : Held) (ds : Disturbances) (serial : Serial) (t : Stage) (c : ChannelId)
      (i : SlotId) (f : FileRec) (rs : StageRecords),
    let s := s₀.disturb ds
    s.grants .claim p h → serial.length = 12 → h.payload = serial ++ [t.byte] → (s.port p).role = c.role →
    c.stage = t → s.find serial = some i →
    let r := (s.granting p).readFile (.request .claim) i
    r.file i = some f → f.records = some rs → f.holds = [] → (rs.get t).state = .opened →
    (∀ u : Stage, u ≠ t → (rs.get u).state.active = false) →
    (t = .noise → rs.runin.state = .passed ∨ rs.runin.state = .waived) → (r.chan c).state = .idle →
    let k := (r.bank f.bank).contents
    let x : StageRecord := { rs.get t with state := .claimed, channel := some c }
    let limit : Option Nat := match k.claimCode with
      | 0 => some 2000 | 1 => some 5000 | 2 => some 10000 | 3 => some 20000 | 4 => some 30000 | 5 => some 60000
      | 6 => some 120000 | _ => none
    let setpoints : List Byte := match t with
      | .runin => (k.step 1).bytes
      | .noise => bytesOf 2 k.noiseFields.speed
      | .leak => bytesOf 4 k.leakFields.target ++ bytesOf 4 k.leakFields.tolerance
    exec (.claim ds) s₀ = .next (((((r.setFile i { f with records := some (rs.set t x) }).setChan c
      ⟨.claimed, some ⟨r.handleOf i, t⟩, limit, none⟩)).recompute i).answer p h.tag .done
        ((r.handleOf i).bytes ++ setpoints))

/-- R49: CLAIM's checks in their order; a refused CLAIM changes no file and no channel, but for what its read does. -/
def Obligations.ClaimIsRefusedByTheFirstFailingCheck : Prop :=
  ∀ (s₀ : State) (p : PortId) (h : Held) (ds : Disturbances) (serial : Serial) (b : Byte),
    let s := s₀.disturb ds
    s.grants .claim p h → serial.length = 12 → h.payload = serial ++ [b] →
    ((∀ t : Stage, t.byte ≠ b) → exec (.claim ds) s₀ = .next (s.refuses p h .range)) ∧
    ∀ t : Stage, t.byte = b →
      ((∀ c : ChannelId, (s.port p).role = c.role → c.stage ≠ t) →
        exec (.claim ds) s₀ = .next (s.refuses p h .role)) ∧
      ∀ c : ChannelId, (s.port p).role = c.role → c.stage = t →
        (s.find serial = none → exec (.claim ds) s₀ = .next (s.refuses p h .unknown)) ∧
        ∀ (i : SlotId) (f : FileRec), s.find serial = some i →
          let r := (s.granting p).readFile (.request .claim) i
          r.file i = some f →
          (f.records = none → exec (.claim ds) s₀ = .next (r.answer p h.tag .damaged [])) ∧
          ∀ rs : StageRecords, f.records = some rs →
            (f.holds ≠ [] → exec (.claim ds) s₀ = .next (r.answer p h.tag .held [])) ∧
            (f.holds = [] → (rs.get t).state ≠ .opened →
              exec (.claim ds) s₀ = .next (r.answer p h.tag .state [])) ∧
            (f.holds = [] → (rs.get t).state = .opened →
              ((∃ u : Stage, u ≠ t ∧ (rs.get u).state.active = true) →
                exec (.claim ds) s₀ = .next (r.answer p h.tag .active [])) ∧
              ((∀ u : Stage, u ≠ t → (rs.get u).state.active = false) →
                (t = .noise → rs.runin.state ≠ .passed → rs.runin.state ≠ .waived →
                  exec (.claim ds) s₀ = .next (r.answer p h.tag .order [])) ∧
                ((t = .noise → rs.runin.state = .passed ∨ rs.runin.state = .waived) → (r.chan c).state ≠ .idle →
                  exec (.claim ds) s₀ = .next (r.answer p h.tag .channel []))))

/-- R2, R55: START is answered ROLE at a port without a channel, RANGE or STALE by the handle check, STATE where the
channel is not CLAIMED for the handle; otherwise the stage becomes RUNNING with one attempt more, the channel RUNNING
with its claim start timer stopped and its stage time limit running (from the bank's seconds), the analyzers are those
State.startAnalyzer sets up, and DONE is answered.
R72, R106, R129: the analyzer a START sets up: the run-in monitor in step 1 with the setpoints held and every count at
0; the noise analyzer in SETTLING, or in DRIVE where no settle revolution is asked for, with the watchdog running; the
leak analyzer in FILL with its fill timer. -/
def Obligations.StartBeginsTheClaimedStageAndSetsUpItsAnalyzer : Prop :=
  (∀ (s₀ : State) (p : PortId) (h : Held) (ds : Disturbances) (a g : Byte),
     let s := s₀.disturb ds
     s.grants .start p h → h.payload = [a, g] →
     ((∀ c : ChannelId, (s.port p).role ≠ c.role) → exec (.start ds) s₀ = .next (s.refuses p h .role)) ∧
     ∀ c : ChannelId, (s.port p).role = c.role →
       (47 < a.toNat → exec (.start ds) s₀ = .next (s.refuses p h .range)) ∧
       ∀ i : SlotId, a.toNat = i.val →
         (s.fileAt ⟨i, g⟩ = none → exec (.start ds) s₀ = .next (s.refuses p h .stale)) ∧
         ((s.fileAt ⟨i, g⟩).isSome = true →
           let r := (s.granting p).readFile (.request .start) i
           (((r.chan c).state ≠ .claimed ∨ (r.chan c).binding.map (·.handle) ≠ some ⟨i, g⟩) →
             exec (.start ds) s₀ = .next (r.answer p h.tag .state [])) ∧
           ∀ (t : Stage) (f : FileRec) (rs : StageRecords),
             (r.chan c).state = .claimed → (r.chan c).binding = some ⟨⟨i, g⟩, t⟩ → r.file i = some f →
             f.records = some rs →
             ∃ u : State, exec (.start ds) s₀ = .next u ∧
               u.chan c = ⟨.running, some ⟨⟨i, g⟩, t⟩, none, some ((r.bank f.bank).contents.stageLimitMs t)⟩ ∧
               (∀ d : ChannelId, d ≠ c → u.chan d = r.chan d) ∧
               (∃ f' : FileRec, u.file i = some f' ∧ f'.records = some (rs.set t
                 { rs.get t with state := .running, attempts := (rs.get t).attempts + 1 }) ∧
                 f'.holds = f.holds ∧ f'.serial = f.serial) ∧
               (∀ j : SlotId, j ≠ i → u.slot j = r.slot j) ∧ u.arbiter = r.arbiter ∧ u.store = r.store ∧
               u.monitors = (r.startAnalyzer c).monitors ∧ u.input = (r.startAnalyzer c).input ∧
               u.noise = (r.startAnalyzer c).noise ∧ u.leaks = (r.startAnalyzer c).leaks ∧
               u.router = r.router ∧ u.audio = r.audio ∧ (u.port p).held = none ∧
               (u.port p).tx.getLast? = some ⟨.answer, h.tag, 0, []⟩)) ∧
  ∀ (s : State) (c : ChannelId), let k := (s.bankOf c).contents
    let t := s.startAnalyzer c
    (∀ x : RunInCh, c = x.id → ∃ m : Monitor, t = s.setMonitor x m ∧ m.step = 1 ∧
      m.stepTimer = some ((k.step 1).durationS * 1000) ∧
      (if (k.step 1).settleMs = 0 then m.windowOpen = false ∧ m.settleTimer = none
        else m.windowOpen = true ∧ m.settleTimer = some (k.step 1).settleMs) ∧
      m.queue = [] ∧ m.held = ⟨(k.step 1).speed, (k.step 1).torque, 0, 0, 0⟩ ∧ m.seen = .all false ∧
      m.invalid = .all 0 ∧ m.breach = ⟨0, 0, 0, 0⟩ ∧ m.mismatch = 0 ∧ m.warm = false ∧ m.checked = false ∧
      m.peakTorque = none ∧ m.peakOil = none ∧ m.peakBearing = none) ∧
    (c = .n → t = { s with
      input := { InputSection.stopped with watchdog := some 2000 }
      noise := { Analyzer.cleared with phase := some (if k.noiseFields.settle = 0 then .drive else .settling) } }) ∧
    ∀ x : LeakCh, c = x.id →
      t = s.setLeak x { LeakAnalyzer.cleared with phase := some .fill, fillTimer := some k.leakFields.fillMs }

/-- R57, R66: an end from the channel makes an END posting at the queue's tail with the binding's handle and stage,
takes the channel to ENDING with its binding kept and its timers stopped, clears its analyzer, and sends the END
directive through the port of its role; files and recipes stay. R52, R53, R56: the claim start timer of a CLAIMED
channel expires into a LAPSE posting, with no directive and no change of any file; the stage time limit of a RUNNING
channel expires into the end CUT_SHORT TIMEOUT; a timer that does not run does not expire (entry 2). -/
def Obligations.EndsAndExpiriesMakeTheirPostings : Prop :=
  (∀ (s : State) (c : ChannelId) (b : Binding) (e : StageEnd), (s.chan c).binding = some b →
     let t := s.endStage c e
     t.arbiter = { s.arbiter with postings := s.arbiter.postings ++ [⟨c, b.handle, b.stage, .ended e⟩] } ∧
     t.chan c = ⟨.ending, some b, none, none⟩ ∧ (∀ d : ChannelId, d ≠ c → t.chan d = s.chan d) ∧
     t.analyzerAtRest c ∧
     (∀ p : PortId, s.portOf c = some p →
       t.ports = (s.hand p ⟨.directive, 0, 4,
         b.handle.bytes ++ [b.stage.byte] ++ bytesOf 1 e.code.num ++ bytesOf 1 e.cause.num⟩).ports) ∧
     t.engine = s.engine ∧ t.store = s.store ∧ t.router = s.router ∧ t.audio = s.audio) ∧
  ∀ (s : State) (c : ChannelId) (b : Binding) (ms : Nat), s.resetLow = false →
    (s.chan c = ⟨.claimed, some b, some ms, none⟩ → s.analyzerAtRest c →
      exec (.claimStartExpiry c) s = .next
        (({ s with arbiter := { s.arbiter with
          postings := s.arbiter.postings ++ [⟨c, b.handle, b.stage, .lapse⟩] } } : State).setChan c
            ⟨.ending, some b, none, none⟩)) ∧
    (s.chan c = ⟨.running, some b, none, some ms⟩ →
      exec (.stageTimeLimitExpiry c) s = .next (s.endStage c ⟨.cutShort, .timeout, none⟩)) ∧
    ((s.chan c).claimTimer = none → exec (.claimStartExpiry c) s = .next s) ∧
    ((s.chan c).stageTimer = none → exec (.stageTimeLimitExpiry c) s = .next s)

/-- R59, R67: ABANDON ends the bound stage CUT_SHORT STATION from CLAIMED or RUNNING, its END directive before DONE, or
is answered ROLE, RANGE (a slot above 47, R2), STALE or STATE; RESULT answers DONE with the handle, the damaged flag and
the stage block, or RANGE (no stage, or a slot above 47), ROLE or STALE. (The layout of the block:
TheReportIsFormedFromTheStoredVerdict.) -/
def Obligations.AbandonEndsAndResultReadsTheStage : Prop :=
  ∀ (s₀ : State) (p : PortId) (h : Held) (ds : Disturbances) (a g : Byte),
    let s := s₀.disturb ds
    (s.grants .abandon p h → h.payload = [a, g] →
      ((∀ c : ChannelId, (s.port p).role ≠ c.role) → exec (.abandon ds) s₀ = .next (s.refuses p h .role)) ∧
      ∀ c : ChannelId, (s.port p).role = c.role →
        (47 < a.toNat → exec (.abandon ds) s₀ = .next (s.refuses p h .range)) ∧
        ∀ i : SlotId, a.toNat = i.val →
          (s.fileAt ⟨i, g⟩ = none → exec (.abandon ds) s₀ = .next (s.refuses p h .stale)) ∧
          ((s.fileAt ⟨i, g⟩).isSome = true →
            let r := (s.granting p).readFile (.request .abandon) i
            (((r.chan c).state = .claimed ∨ (r.chan c).state = .running) →
              (r.chan c).binding.map (·.handle) = some ⟨i, g⟩ → exec (.abandon ds) s₀ =
                .next ((r.endStage c ⟨.cutShort, .station, none⟩).answer p h.tag .done [])) ∧
            (((r.chan c).state = .idle ∨ (r.chan c).state = .ending ∨
                (r.chan c).binding.map (·.handle) ≠ some ⟨i, g⟩) →
              exec (.abandon ds) s₀ = .next (r.answer p h.tag .state [])))) ∧
    (s.grants .result p h → ∀ b : Byte, h.payload = [a, g, b] →
      ((∀ t : Stage, t.byte ≠ b) → exec (.result ds) s₀ = .next (s.refuses p h .range)) ∧
      ∀ t : Stage, t.byte = b →
        (p ≠ 0 → (∀ c : ChannelId, (s.port p).role = c.role → c.stage ≠ t) →
          exec (.result ds) s₀ = .next (s.refuses p h .role)) ∧
        ((p = 0 ∨ ∃ c : ChannelId, (s.port p).role = c.role ∧ c.stage = t) →
          (47 < a.toNat → exec (.result ds) s₀ = .next (s.refuses p h .range)) ∧
          ∀ i : SlotId, a.toNat = i.val →
            (s.fileAt ⟨i, g⟩ = none → exec (.result ds) s₀ = .next (s.refuses p h .stale)) ∧
            ((s.fileAt ⟨i, g⟩).isSome = true → ∃ f : FileRec,
              let r := (s.granting p).readFile (.request .result) i
              r.file i = some f ∧ exec (.result ds) s₀ = .next (r.answer p h.tag .done
                ([a, g] ++ [if f.records = none then 1 else 0] ++ blockOf t (f.records.map fun rs => rs.get t))))))

/-- R60, R61: the oldest posting, an END, applied: the stage PASSED, FAILED or OPEN by the end code and the attempts
against the bank's retry limit, its last outcome replaced and its channel field cleared, the channel IDLE, the verdict
recomputed (attempts past the retry limit are taken as at it: entry 17); a posting with a stale handle touches no file
and frees its channel, an END as a LAPSE. R54: the oldest posting, a LAPSE,
applied: the stage OPEN with attempts, reopen count and last outcome as they stand, the channel IDLE, the verdict
recomputed and one LAPSE notice raised with the stage. R64: where the read's damage ended the channel, that end stands
in place of either. -/
def Obligations.PostingsAreAppliedToTheirStages : Prop :=
  (∀ (s₀ : State) (ds : Disturbances) (q : Posting) (rest : List Posting) (e : StageEnd),
     let s := s₀.disturb ds
     s.resetLow = false → s.arbiter.postings = q :: rest → q.kind = .ended e →
     s.chan q.channel = ⟨.ending, some ⟨q.handle, q.stage⟩, none, none⟩ →
     let d : State := { s with arbiter := { s.arbiter with postings := rest } }
     (s.fileAt q.handle = none → exec (.endPostingApplied ds) s₀ = .next (d.restChannel q.channel)) ∧
     ((s.fileAt q.handle).isSome = true →
       let r := d.readFile .endPosting q.handle.slot
       ((r.chan q.channel).state ≠ .ending → exec (.endPostingApplied ds) s₀ = .next r) ∧
       ∀ (f : FileRec) (rs : StageRecords), (r.chan q.channel).state = .ending →
         r.file q.handle.slot = some f → f.records = some rs →
         let old := rs.get q.stage
         let new : StageState := match e.code with
           | .pass => .passed
           | .fail | .cutShort =>
             if (r.bank f.bank).contents.retryLimit q.stage ≤ old.attempts then .failed else .opened
         exec (.endPostingApplied ds) s₀ = .next (((r.setFile q.handle.slot { f with
           records := some (rs.set q.stage { old with state := new, channel := none, last := some e }) }).restChannel
             q.channel).recompute q.handle.slot))) ∧
  ∀ (s₀ : State) (ds : Disturbances) (q : Posting) (rest : List Posting),
    let s := s₀.disturb ds
    s.resetLow = false → s.arbiter.postings = q :: rest → q.kind = .lapse →
    s.chan q.channel = ⟨.ending, some ⟨q.handle, q.stage⟩, none, none⟩ →
    let d : State := { s with arbiter := { s.arbiter with postings := rest } }
    (s.fileAt q.handle = none → exec (.lapsePostingApplied ds) s₀ = .next (d.restChannel q.channel)) ∧
    ((s.fileAt q.handle).isSome = true →
      let r := d.readFile .lapsePosting q.handle.slot
      ((r.chan q.channel).state ≠ .ending → exec (.lapsePostingApplied ds) s₀ = .next r) ∧
      ∀ (f : FileRec) (rs : StageRecords), (r.chan q.channel).state = .ending →
        r.file q.handle.slot = some f → f.records = some rs →
        exec (.lapsePostingApplied ds) s₀ = .next ((((r.setFile q.handle.slot { f with
          records := some (rs.set q.stage { rs.get q.stage with state := .opened, channel := none }) }).restChannel
            q.channel).recompute q.handle.slot).raise .lapse f.serial q.stage.byte))

/-- R62: an engine-side end of a bound channel deletes its posting, applies a CUT_SHORT end of the cause to the stage
record, frees the channel and sends the END directive. (Attempts past the retry limit are taken as at it: entry 17.) Of
a damaged file, whose stage records are lost, the same without a stage record (R5, R64). -/
def Obligations.AnEngineSideEndFreesTheChannel : Prop :=
  ∀ (s : State) (c : ChannelId) (b : Binding) (cause : Cause) (f : FileRec),
    (s.chan c).binding = some b → s.fileAt b.handle = some f →
    let t := s.engineEnd c cause
    t.arbiter = { s.arbiter with postings := s.arbiter.postings.filter fun q => q.channel != c } ∧
    t.chan c = .rest ∧ (∀ d : ChannelId, d ≠ c → t.chan d = s.chan d) ∧ t.analyzerAtRest c ∧
    (∀ rs : StageRecords, f.records = some rs →
      let old := rs.get b.stage
      ∃ f' : FileRec, t.file b.handle.slot = some f' ∧ f'.verdict = f'.verdictNow ∧ f'.holds = f.holds ∧
        f'.records = some (rs.set b.stage { old with
          state := if (s.bank f.bank).contents.retryLimit b.stage ≤ old.attempts then .failed else .opened
          channel := none
          last := some ⟨.cutShort, cause, none⟩ })) ∧
    (f.records = none → t.file b.handle.slot = some { f with verdict := .hold }) ∧
    (∀ j : SlotId, j ≠ b.handle.slot → t.slot j = s.slot j) ∧
    (∀ p : PortId, s.portOf c = some p → (s.port p).tx ++ [⟨.directive, 0, 4,
      b.handle.bytes ++ [b.stage.byte] ++ bytesOf 1 3 ++ bytesOf 1 cause.num⟩] <+: (t.port p).tx) ∧
    t.store = s.store ∧ t.router = s.router ∧ t.audio = s.audio

/-! ## Record memory (chapter 10) -/

/-- R178 to R183: the read of a live file. A sound record and a damaged file's leave everything. A correctable error
changes no file; its words are written back, of which a lasting fault stands in error again. An uncorrectable one makes
the file damaged with verdict HOLD and its channel IDLE. An error fills an unlocked capture record with its kind, slot,
first syndrome of that kind and item, leaves a locked one, and raises one FAULT notice where the record was unlocked or
the multi-notice switch is ON. The frames of an uncorrectable one, in R183's order: the FAULT notice, the END directive
with cause DAMAGED through the channel's port, the VERDICT notice where the verdict was not HOLD. A word that goes wrong
(entry 4) stands in error in its slot's record until its read and changes nothing else. -/
def Obligations.AReadFindsErrorsAndCapturesTheFirst : Prop :=
  (∀ (s : State) (i : SlotId) (e : WordError),
    let t := s.disturb [⟨i, e⟩]
    (∀ x : WordError, x ∈ (t.slot i).errors ↔ x = e ∨ (x.word ≠ e.word ∧ x ∈ (s.slot i).errors)) ∧
    (t.slot i).gen = (s.slot i).gen ∧ t.file i = s.file i ∧ (∀ j : SlotId, j ≠ i → t.slot j = s.slot j) ∧
    { t with engine := { t.engine with slots := s.engine.slots } } = s) ∧
  ∀ (s : State) (item : CaptureItem) (i : SlotId) (f : FileRec), s.file i = some f →
    let errs := (s.slot i).errors
    let t := s.readFile item i
    (f.records = none ∨ errs = [] → t = s) ∧
    (f.records.isSome = true → ∀ (e : WordError) (before after : List WordError), errs = before ++ e :: after →
      (∀ x ∈ before, x.multiple ≠ e.multiple) →
      let filled : Capture := ⟨if e.multiple then .uncorrectable else .correctable, i, e.syndrome, item⟩
      let raised : Prop := s.router.multi = true ∨ s.router.capture = none
      let name : List Byte := BitVec.ofNat 8 i.val :: List.replicate 11 0
      (e.multiple = false → (∀ x ∈ errs, x.multiple = false) →
        t.slot i = { s.slot i with errors := errs.filter (·.lasting) } ∧
        (∀ j : SlotId, j ≠ i → t.slot j = s.slot j) ∧ t.engine.index = s.engine.index ∧
        t.engine.lineOrder = s.engine.lineOrder ∧ t.engine.admissions = s.engine.admissions ∧
        t.engine.strayEnabled = s.engine.strayEnabled ∧
        t.chans = s.chans ∧ t.arbiter = s.arbiter ∧ t.monitors = s.monitors ∧
        t.noise = s.noise ∧ t.input = s.input ∧ t.leaks = s.leaks ∧ t.store = s.store ∧ t.audio = s.audio ∧
        t.router = { s.router with capture := some (s.router.capture.getD filled) } ∧
        (raised → t.ports = (s.raise .fault name 1).ports) ∧ (¬raised → t.ports = s.ports)) ∧
      (e.multiple = true →
        (∃ f' : FileRec, t.slot i = ⟨(s.slot i).gen, some f', []⟩ ∧ f'.records = none ∧ f'.verdict = .hold ∧
          f'.serial = f.serial ∧ f'.variant = f.variant ∧ f'.order = f.order ∧ f'.bank = f.bank ∧
          f'.holds = f.holds) ∧
        (∀ j : SlotId, j ≠ i → t.slot j = s.slot j) ∧
        (∀ c : ChannelId, s.boundTo (s.handleOf i) = some c →
          t.chan c = .rest ∧ (∀ d : ChannelId, d ≠ c → t.chan d = s.chan d) ∧ t.analyzerAtRest c ∧
          t.arbiter = { s.arbiter with postings := s.arbiter.postings.filter fun q => q.channel != c }) ∧
        (s.boundTo (s.handleOf i) = none → t.chans = s.chans ∧ t.arbiter = s.arbiter) ∧
        (let told := fun x : State => if f.verdict = .hold then x else x.raise .verdict f.serial 4
         ∀ x : State, (raised → x = s.raise .fault name 2) → (¬raised → x = s) →
           (∀ (c : ChannelId) (b : Binding), s.boundTo (s.handleOf i) = some c → (s.chan c).binding = some b →
             t.ports = (told (x.direct c .ended (b.handle.bytes ++ [b.stage.byte, 3, 20]))).ports) ∧
           (s.boundTo (s.handleOf i) = none → t.ports = (told x).ports)) ∧
        t.router = { s.router with capture := some (s.router.capture.getD filled) } ∧ t.store = s.store ∧
        t.audio = s.audio))

/-! ## Run-in monitor (chapter 4) -/

/-- R77 to R79, R82: a RUNNING run-in channel takes the oldest reading of its queue. A reading of another step is
ignored in the open settle window and counted as a mismatch after it, ending the stage STEP_LOST at the breach
persistence. A reading of the current step sets the mismatch counter to 0 and each held value, valid-seen flag and
invalid counter by R79, ending the stage SENSOR at the invalid limit. R81, R84, R85: a checked reading that ends
nothing before sets the checked flag, takes the peaks over the values as checked, counts each breach, and ends the
stage FAIL where a breach counter reaches the breach persistence, with the first cause in the order SPEED, TORQUE,
OIL_TEMP, BEARING_TEMP and the summary of the peaks and k - 1 steps. (A counter past its limit is taken as at it: entry
17.) -/
def Obligations.ARunInReadingIsSortedCountedAndJudged : Prop :=
  (∀ (s : State) (c : RunInCh) (r : RunInReading) (rest : List RunInReading),
     s.resetLow = false → (s.chan c.id).state = .running → (s.monitor c).queue = r :: rest →
     let k := (s.bankOf c.id).contents
     let m : Monitor := { s.monitor c with queue := rest }
     (r.tag ≠ m.step → m.windowOpen = true →
       exec (.runinReadingTaken c) s = .next (s.setMonitor c m)) ∧
     (r.tag ≠ m.step → m.windowOpen = false →
       let missed := s.setMonitor c { m with mismatch := m.mismatch + 1 }
       (m.mismatch + 1 < k.persistence → exec (.runinReadingTaken c) s = .next missed) ∧
       (k.persistence ≤ m.mismatch + 1 →
         exec (.runinReadingTaken c) s = .next (missed.endStage c.id ⟨.cutShort, .stepLost, none⟩))) ∧
     (r.tag = m.step →
       let used : Five Int := ⟨r.values.speed.getD m.held.speed, r.values.torque.getD m.held.torque,
         r.values.oil.getD m.held.oil, r.values.bearing1.getD m.held.bearing1, r.values.bearing2.getD m.held.bearing2⟩
       let count := fun (v : Option Int) (n : Nat) => if v.isSome then 0 else n + 1
       let invalid : Five Nat := ⟨count r.values.speed m.invalid.speed, count r.values.torque m.invalid.torque,
         count r.values.oil m.invalid.oil, count r.values.bearing1 m.invalid.bearing1,
         count r.values.bearing2 m.invalid.bearing2⟩
       let seen : Five Bool := ⟨m.seen.speed || r.values.speed.isSome, m.seen.torque || r.values.torque.isSome,
         m.seen.oil || r.values.oil.isSome, m.seen.bearing1 || r.values.bearing1.isSome,
         m.seen.bearing2 || r.values.bearing2.isSome⟩
       let counted : Monitor := { m with mismatch := 0, held := used, seen := seen, invalid := invalid }
       let warm := (k.step m.step).warm
       ((∃ x ∈ [invalid.speed, invalid.torque, invalid.oil, invalid.bearing1, invalid.bearing2], k.invalidLimit ≤ x) →
         exec (.runinReadingTaken c) s =
           .next ((s.setMonitor c counted).endStage c.id ⟨.cutShort, .sensor, none⟩)) ∧
       ((∀ x ∈ [invalid.speed, invalid.torque, invalid.oil, invalid.bearing1, invalid.bearing2], x < k.invalidLimit) →
         let warmed : Monitor :=
           { counted with warm := m.warm || (r.values.oil.any fun v => warm != 0 && (warm : Int) ≤ v) }
         (m.windowOpen = true → exec (.runinReadingTaken c) s = .next (s.setMonitor c warmed)) ∧
         (m.windowOpen = false →
           let judged := warmed.check (k.step m.step) k.persistence used
           (judged.2 = none → exec (.runinReadingTaken c) s = .next (s.setMonitor c judged.1)) ∧
           ∀ e : StageEnd, judged.2 = some e →
             exec (.runinReadingTaken c) s = .next ((s.setMonitor c judged.1).endStage c.id e))))) ∧
  ∀ (m : Monitor) (f : StepFields) (persistence : Nat) (v : Five Int),
    let r := m.check f persistence v
    let b := r.1.breach
    let summary : Summary := .runin (r.1.peakTorque.getD 0) (r.1.peakOil.getD 0) (r.1.peakBearing.getD 0) (m.step - 1)
    r.1.checked = true ∧
    r.1.peakTorque = some (match m.peakTorque with | some x => max x v.torque.natAbs | none => v.torque.natAbs) ∧
    r.1.peakOil = some (match m.peakOil with | some x => max x v.oil | none => v.oil) ∧
    r.1.peakBearing = some (match m.peakBearing with
      | some x => max x (max v.bearing1 v.bearing2)
      | none => max v.bearing1 v.bearing2) ∧
    b.speed = (if v.speed < (f.speed : Int) - f.tolerance ∨ (f.speed : Int) + f.tolerance < v.speed
      then m.breach.speed + 1 else 0) ∧
    b.torque = (if v.torque < f.lower ∨ f.upper < v.torque then m.breach.torque + 1 else 0) ∧
    b.oil = (if (f.oilMax : Int) < v.oil then m.breach.oil + 1 else 0) ∧
    b.bearing = (if (f.bearingMax : Int) < v.bearing1 ∨ (f.bearingMax : Int) < v.bearing2
      then m.breach.bearing + 1 else 0) ∧
    (persistence ≤ b.speed → r.2 = some ⟨.fail, .speed, some summary⟩) ∧
    (b.speed < persistence → persistence ≤ b.torque → r.2 = some ⟨.fail, .torque, some summary⟩) ∧
    (b.speed < persistence → b.torque < persistence → persistence ≤ b.oil →
      r.2 = some ⟨.fail, .oilTemp, some summary⟩) ∧
    (b.speed < persistence → b.torque < persistence → b.oil < persistence → persistence ≤ b.bearing →
      r.2 = some ⟨.fail, .bearingTemp, some summary⟩) ∧
    (b.speed < persistence → b.torque < persistence → b.oil < persistence → b.bearing < persistence → r.2 = none) ∧
    { r.1 with checked := m.checked, peakTorque := m.peakTorque, peakOil := m.peakOil,
               peakBearing := m.peakBearing, breach := m.breach } = m

/-- R72 to R76: the settle timer closes the window. The step timer judges the step, SENSOR where no reading was checked,
EQUIPMENT where the warm-up was not seen; otherwise the next step is entered, with its timers and counts, and the STEP
directive sent, or after the last step the stage ends PASS with the summary of the peaks and the step count. (A step
past the step count is taken as the last: entry 17.) -/
def Obligations.StepsFollowTheirTimers : Prop :=
  ∀ (s : State) (c : RunInCh) (b : Binding), s.resetLow = false → (s.chan c.id).state = .running →
    (s.chan c.id).binding = some b →
    let m := s.monitor c
    let k := s.bankOf c.id
    (m.settleTimer.isSome = true → exec (.settleTimerExpiry c) s =
      .next (s.setMonitor c { m with settleTimer := none, windowOpen := false })) ∧
    (m.stepTimer.isSome = true →
      (m.checked = false → exec (.stepTimerExpiry c) s = .next (s.endStage c.id ⟨.cutShort, .sensor, none⟩)) ∧
      (m.checked = true → (k.contents.step m.step).warm ≠ 0 → m.warm = false →
        exec (.stepTimerExpiry c) s = .next (s.endStage c.id ⟨.cutShort, .equipment, none⟩)) ∧
      (m.checked = true → ((k.contents.step m.step).warm = 0 ∨ m.warm = true) →
        (k.stepCount ≤ m.step → exec (.stepTimerExpiry c) s = .next (s.endStage c.id ⟨.pass, .none,
          some (.runin (m.peakTorque.getD 0) (m.peakOil.getD 0) (m.peakBearing.getD 0) k.stepCount)⟩)) ∧
        (m.step < k.stepCount →
          let f := k.contents.step (m.step + 1)
          let n : Monitor := { m with
            step := m.step + 1
            stepTimer := some (f.durationS * 1000)
            settleTimer := if f.settleMs = 0 then none else some f.settleMs
            windowOpen := decide (f.settleMs ≠ 0)
            breach := ⟨0, 0, 0, 0⟩
            mismatch := 0
            warm := false
            checked := false
            held := { m.held with
              speed := if m.seen.speed then m.held.speed else f.speed
              torque := if m.seen.torque then m.held.torque else f.torque } }
          exec (.stepTimerExpiry c) s = .next ((s.setMonitor c n).direct c.id .step
            (b.handle.bytes ++ [b.stage.byte] ++ bytesOf 1 (m.step + 1) ++ f.bytes)))))

/-! ## Noise analyzer (chapters 5 and 6) -/

/-- R90 to R92, R94, R98, R188: what the end of a half does while channel N listens, by its place (entry 20). The half
in progress when listening began is neither read nor counted (entry 10); a right half that then ends that period is
counted for the width and not read, in STEREO; of a later period the left word waits in STEREO and is the frame in
MONO, and the right word completes the STEREO frame by the source; a format fault ends the stage FORMAT; no right half
is examined in MONO. A change of AWS from the other level, and in MASTER mode a half of another length than 32 bit
clocks, does not arise (entries 10, 11), and a channel that does not listen takes nothing. -/
def Obligations.AHalfOfTheWordSelectYieldsItsWord : Prop :=
  ∀ (s : State) (level : AwsLevel) (bits : List Bool), s.resetLow = false →
    let cfg := s.audio
    let word := halfWord cfg s.input.detected bits
    let goes := fun x : InputSection => exec (.audioHalfEnd level bits) s = .next { s with input := x }
    let isLeft : Prop := level = cfg.leftLevel
    let place := s.input.place
    let ofRight : Prop := place = .restRight ∨ place = .right
    let whole : Prop := cfg.mode = .master → bits.length = 32
    (s.listening = false → exec (.audioHalfEnd level bits) s = .next s) ∧
    (s.listening = true →
      (place = .before → (cfg.mode = .master → bits.length ≤ 32) →
        (isLeft → goes { s.input with place := .restRight }) ∧ (¬isLeft → goes { s.input with place := .left })) ∧
      (place = .left → isLeft → whole →
        (word = .fault → exec (.audioHalfEnd level bits) s = .next (s.endStage .n ⟨.cutShort, .format, none⟩)) ∧
        ∀ v : Int, word = .word v →
          let i : InputSection :=
            { s.input with place := .right, detected := detectedAfter cfg s.input.detected bits }
          (cfg.framing = .mono → goes (i.frame v)) ∧ (cfg.framing = .stereo → goes { i with left := some v })) ∧
      (ofRight → ¬isLeft → whole → cfg.framing = .mono → goes { s.input with place := .left }) ∧
      (ofRight → ¬isLeft → whole → cfg.framing = .stereo →
        (word = .fault → exec (.audioHalfEnd level bits) s = .next (s.endStage .n ⟨.cutShort, .format, none⟩)) ∧
        ∀ v : Int, word = .word v →
          let i : InputSection :=
            { s.input with place := .left, detected := detectedAfter cfg s.input.detected bits }
          (place = .restRight ∨ s.input.left = none → goes i) ∧
          ∀ l : Int, place = .right → s.input.left = some l →
            let sample : Int := match cfg.source with
              | .left => l
              | .right => v
              | .mean => (l + v).tdiv 2
            goes ({ i with left := none }.frame sample)) ∧
      ((place = .left ∧ ¬isLeft) ∨ (ofRight ∧ isLeft) ∨ (place ≠ .before ∧ ¬whole) ∨
          (cfg.mode = .master ∧ 32 < bits.length) →
        exec (.audioHalfEnd level bits) s = .next s))

/-- R93: a word read is normalized by its width into the 24-bit range, 16 bits multiplied by 256, 24 unchanged, 32
divided by 256, floor. Beside it, of R90 and R92: a half of at least the configured width gives its first bits as the
word, a shorter one is in SLAVE mode a format fault (a MASTER half has 32 bit clocks); in AUTO a counted half gives
its width by Table 5-3, the first that gives one sets the detected width, and a later one that gives another, or none,
is a format fault. And of R94: the mean of two normalized words is in the range. -/
def Obligations.WordsAreReadAtTheirWidthAndNormalized : Prop :=
  (∀ v : Int, normalize .w16 v = v * 256 ∧ normalize .w24 v = v ∧
    256 * normalize .w32 v ≤ v ∧ v < 256 * normalize .w32 v + 256) ∧
  (∀ (w : WordWidth) (bits : List Bool), w.bits ≤ bits.length →
    -8388608 ≤ normalize w (signedBits (bits.take w.bits)) ∧
    normalize w (signedBits (bits.take w.bits)) ≤ 8388607) ∧
  (∀ (src : AudioSource) (l r : Int), -8388608 ≤ l → l ≤ 8388607 → -8388608 ≤ r → r ≤ 8388607 →
    -8388608 ≤ stereoSample src l r ∧ stereoSample src l r ≤ 8388607) ∧
  (∀ (cfg : AudioConfig) (detected : Option WordWidth) (bits : List Bool) (w : WordWidth), cfg.width = some w →
    detectedAfter cfg detected bits = detected ∧
    (w.bits ≤ bits.length → halfWord cfg detected bits = .word (normalize w (signedBits (bits.take w.bits)))) ∧
    (cfg.mode = .slave → bits.length < w.bits → halfWord cfg detected bits = .fault)) ∧
  ∀ (cfg : AudioConfig) (detected : Option WordWidth) (bits : List Bool), cfg.width = none →
    let n := bits.length
    let given : Option WordWidth :=
      if n = 16 then some .w16 else if n = 24 then some .w24 else if n = 32 ∨ 33 ≤ n then some .w32 else none
    (given = none → halfWord cfg detected bits = .fault) ∧
    ∀ w : WordWidth, given = some w →
      (detected = none ∨ detected = some w →
        halfWord cfg detected bits = .word (normalize w (signedBits (bits.take w.bits))) ∧
        detectedAfter cfg detected bits = some w) ∧
      (∀ d : WordWidth, detected = some d → d ≠ w → halfWord cfg detected bits = .fault)

/-- R98, R99: the three flags and the FIFO at a revolution marker and at a completed frame. R95, R97: an edge on TACH
that is counted starts the watchdog again at 2,000 ms and advances the count, the P-th (or a later one, entry 17)
returning it to 0 and setting a marker; the watchdog's expiry ends the stage NO_TACH; an edge outside RUNNING or in
EVALUATE is not counted. -/
def Obligations.FramesMarkersAndEdgesKeepTheRecordOfRevolutions : Prop :=
  (∀ (i : InputSection) (v : Int),
     (i.revolutionOpen = false → i.marker = { i with revolutionOpen := true, markerPending := true }) ∧
     (i.revolutionOpen = true → i.markerPending = false → i.marker = { i with markerPending := true }) ∧
     (i.revolutionOpen = true → i.markerPending = true → i.marker = { i with spoilPending := false }) ∧
     (i.revolutionOpen = false → i.frame v = i) ∧
     (i.revolutionOpen = true → i.fifo.length < 64 → i.frame v = { i with
       fifo := i.fifo ++ [⟨v, i.markerPending, i.spoilPending⟩], markerPending := false, spoilPending := false }) ∧
     (i.revolutionOpen = true → 64 ≤ i.fifo.length → i.markerPending = true →
       i.frame v = { i with spoilPending := true }) ∧
     (i.revolutionOpen = true → 64 ≤ i.fifo.length → i.markerPending = false →
       ∀ (older : List FifoEntry) (newest : FifoEntry), i.fifo = older ++ [newest] →
         i.frame v = { i with fifo := older ++ [{ newest with spoils := true }] })) ∧
  ∀ s : State, s.resetLow = false →
    (s.listening = true →
      (s.input.edges + 1 < s.audio.pulses → exec .tachEdge s =
        .next { s with input := { s.input with edges := s.input.edges + 1, watchdog := some 2000 } }) ∧
      (s.audio.pulses ≤ s.input.edges + 1 → exec .tachEdge s =
        .next { s with input := { s.input with edges := 0, watchdog := some 2000 }.marker }) ∧
      (s.input.watchdog.isSome = true →
        exec .tachWatchdogExpiry s = .next (s.endStage .n ⟨.cutShort, .noTach, none⟩))) ∧
    (((s.chan .n).state ≠ .running ∨ s.noise.phase = some .evaluate) →
      exec .tachEdge s = .next s ∧ exec .tachWatchdogExpiry s = .next s)

/-- R107, R108, R110: while channel N listens, the revolution buffers take the entry at the head of the FIFO: an entry
with opens yes waits for a FOLDING buffer, else opens a revolution, closing the one in the filling buffer first;
another is appended, dropped while entries are discarded, or makes the revolution overlong at 4,096 samples; a
rejection above the reject limit ends the stage UNSTEADY (R111). An entry that would make the revolution overlong
waits too for the fold in the other buffer (R108, R122; that it waits at the head of the FIFO is entry 24). R109: a
closed revolution by the phase: counted in SETTLING and FLANK, the phase going on at the number of settle revolutions;
in DRIVE and COAST accepted, its buffer FOLDING, where it is not spoiled and L lies from Lmin to Lmax (and is no more
than 4,096, R110), and otherwise counted as rejected. (A count past its number is taken as at it: entry 17.) -/
def Obligations.EntriesRebuildTheRevolutionsAndThePhaseJudgesThem : Prop :=
  (∀ (s : State) (e : FifoEntry) (rest : List FifoEntry),
     s.resetLow = false → s.listening = true → s.input.fifo = e :: rest →
     let a := s.noise
     let f := s.noiseFields
     let buf := a.buffer a.filling
     let after := fun x : Analyzer => ({ s with input := { s.input with fifo := rest }, noise := x } : State)
     let settled := fun x : Analyzer => if a.rejected < x.rejected ∧ f.rejectLimit < x.rejected then
       (after x).endStage .n ⟨.cutShort, .unsteady, none⟩ else after x
     (e.opens = true → buf.state = .empty → a.discarding = false → exec .revolutionEntryTaken s =
       .next (after { a.setBuffer a.filling ⟨.filling, [e.sample], e.spoils⟩ with discarding := false })) ∧
     (e.opens = true → a.discarding = true → buf.state ≠ .folding → exec .revolutionEntryTaken s =
       .next (after { a.setBuffer a.filling ⟨.filling, [e.sample], e.spoils⟩ with discarding := false })) ∧
     (e.opens = true → a.discarding = false → buf.state = .filling → (a.buffer a.filling.other).state = .folding →
       exec .revolutionEntryTaken s = .next s) ∧
     (e.opens = true → a.discarding = false → buf.state = .filling → (a.buffer a.filling.other).state ≠ .folding →
       exec .revolutionEntryTaken s = .next (settled { (a.close f buf.samples.length).setBuffer a.filling.other
         ⟨.filling, [e.sample], e.spoils⟩ with filling := a.filling.other, discarding := false })) ∧
     (e.opens = false → a.discarding = true → exec .revolutionEntryTaken s = .next (after a)) ∧
     (e.opens = false → a.discarding = false → buf.state = .filling → buf.samples.length < 4096 →
       exec .revolutionEntryTaken s = .next (after (a.setBuffer a.filling
         { buf with samples := buf.samples ++ [e.sample], spoiled := buf.spoiled || e.spoils }))) ∧
     (e.opens = false → a.discarding = false → buf.state = .filling → 4096 ≤ buf.samples.length →
       (a.buffer a.filling.other).state = .folding → exec .revolutionEntryTaken s = .next s) ∧
     (e.opens = false → a.discarding = false → buf.state = .filling → 4096 ≤ buf.samples.length →
       (a.buffer a.filling.other).state ≠ .folding → exec .revolutionEntryTaken s =
         .next (settled { a.close f (buf.samples.length + 1) with discarding := true }))) ∧
  ∀ (a : Analyzer) (f : NoiseFields) (len : Nat),
    let buf := a.buffer a.filling
    let emptied := a.setBuffer a.filling ⟨.empty, [], false⟩
    let ok : Prop := buf.spoiled = false ∧ f.lmin ≤ len ∧ len ≤ f.lmax ∧ len ≤ 4096
    (a.phase = some .settling →
      (a.settled + 1 < f.settle → a.close f len = { emptied with settled := a.settled + 1 }) ∧
      (f.settle ≤ a.settled + 1 → a.close f len = { emptied with settled := 0, phase := some .drive })) ∧
    (a.phase = some .flank →
      (a.settled + 1 < f.flankSettle → a.close f len = { emptied with settled := a.settled + 1 }) ∧
      (f.flankSettle ≤ a.settled + 1 → a.close f len = { emptied with settled := 0, phase := some .coast })) ∧
    (a.phase = some .drive ∨ a.phase = some .coast →
      (ok → a.close f len = a.setBuffer a.filling { buf with state := .folding }) ∧
      (¬ok → a.close f len = { emptied with rejected := a.rejected + 1 }))

/-- R112: in the fold of a revolution of L samples, sample k goes to slot floor(k * 128 / L): each slot's count grows
by the number of such k and its sum by their samples; that is L / 128 samples a slot or one more, for L from 128 to
4,096 at least 1 and at most 32; the accepted count grows by one. At the end of a fold the revolution is in the
accumulator bank of its phase and the buffer empty; at the drive target FLANK begins (COAST where no flank settle
revolution is asked for) with the FLANK directive (R114), at the coast target EVALUATE, with the stage time limit
stopped, the input section stopped and both buffers empty (R115). (A count past its target is taken as at it: entry
17. The whole fold is at its end: entry 12. That EVALUATE keeps the tachometer edge count, the discarding flag and the
name of the filling buffer is DEDUCED: entry 22.) -/
def Obligations.AFoldSpreadsTheRevolutionAndEndsInItsBank : Prop :=
  (∀ (s : State) (b : BufferId) (g : Binding),
     s.resetLow = false → s.listening = true → s.noise.folding = some b → (s.chan .n).binding = some g →
     let a := s.noise
     let f := s.noiseFields
     let samples := (a.buffer b).samples
     let emptied := a.setBuffer b ⟨.empty, [], false⟩
     let d : AccBank := a.drive.fold samples
     let q : AccBank := a.coast.fold samples
     (a.phase = some .drive →
       (a.drive.accepted + 1 < f.driveTarget →
         exec .foldEnd s = .next { s with noise := { emptied with drive := d } }) ∧
       (f.driveTarget ≤ a.drive.accepted + 1 → exec .foldEnd s = .next (({ s with noise := { emptied with
         drive := d, phase := some (if f.flankSettle = 0 then .coast else .flank) } } : State).direct .n .flank
           (g.handle.bytes ++ [g.stage.byte, 2])))) ∧
     (a.phase = some .coast →
       (a.coast.accepted + 1 < f.coastTarget →
         exec .foldEnd s = .next { s with noise := { emptied with coast := q } }) ∧
       (f.coastTarget ≤ a.coast.accepted + 1 → exec .foldEnd s =
         .next { s.setChan .n { s.chan .n with stageTimer := none } with
           input := { InputSection.stopped with edges := s.input.edges }
           noise := { a with coast := q, phase := some .evaluate, x := ⟨.empty, [], false⟩,
                             y := ⟨.empty, [], false⟩ } }))) ∧
  ∀ (b : AccBank) (samples : List Int), b.slots.length = 128 → samples ≠ [] →
    let t := b.fold samples
    let mine := fun s : Nat => (List.range samples.length).filter fun k => k * 128 / samples.length == s
    t.accepted = b.accepted + 1 ∧ t.slots.length = 128 ∧
    ∀ s : Nat, s < 128 →
      let old := b.slots.getD s ⟨0, 0⟩
      t.slots.getD s ⟨0, 0⟩ =
        ⟨old.sum + ((mine s).map fun k => samples.getD k 0).sum, old.count + (mine s).length⟩ ∧
      ((mine s).length = samples.length / 128 ∨ (mine s).length = samples.length / 128 + 1) ∧
      (samples.length % 128 = 0 → (mine s).length = samples.length / 128) ∧
      (128 ≤ samples.length → samples.length ≤ 4096 → 1 ≤ (mine s).length ∧ (mine s).length ≤ 32)

/-- R119 to R121: the end of the evaluation in EVALUATE ends the stage by the judgement of its results: FAIL LEVEL
where a level exceeds its limit, else FAIL BAND where a checked amplitude exceeds its limit, else PASS, with the
summary of the two levels and the worst band; the results are those of the two accumulator banks for the band list of
the bank. -/
def Obligations.TheNoiseEvaluationEndsTheStageByItsJudgement : Prop :=
  ∀ s : State, s.resetLow = false → (s.chan .n).state = .running → s.noise.phase = some .evaluate →
    let bands := (s.bankOf .n).bands
    let f := s.noiseFields
    let d := s.noise.drive.deviations
    let q := s.noise.coast.deviations
    let amps := bands.map fun b => (amplitudeOf d b.order, amplitudeOf q b.order)
    let summary : Summary := .noise (levelOf d) (levelOf q) (worstBand (allPairs bands ⟨levelOf d, levelOf q, amps⟩))
    let above : Prop := ∃ b ∈ bands, (b.driveLimit ≠ 0 ∧ b.driveLimit < amplitudeOf d b.order) ∨
      (b.coastLimit ≠ 0 ∧ b.coastLimit < amplitudeOf q b.order)
    let ends := fun e : StageEnd => exec .noiseEvaluationEnd s =
      .next (({ s with noise := { s.noise with results := some ⟨levelOf d, levelOf q, amps⟩ } } : State).endStage .n e)
    (f.driveLimit < levelOf d ∨ f.coastLimit < levelOf q → ends ⟨.fail, .level, some summary⟩) ∧
    (levelOf d ≤ f.driveLimit → levelOf q ≤ f.coastLimit → above → ends ⟨.fail, .band, some summary⟩) ∧
    (levelOf d ≤ f.driveLimit → levelOf q ≤ f.coastLimit → ¬above → ends ⟨.pass, .none, some summary⟩)

/-- R120: the checked pairs are each band with DRIVE where its drive limit is not 0 and with COAST where its coast
limit is not 0, in table order; the worst band is the pair that outranks every earlier one and that no later one
outranks, by cross-multiplied scores, ties to the earlier; there is none exactly when no pair is checked. Beside it,
of 00 and R116: isqrt is the largest integer whose square does not exceed its argument; the rounding is to the nearest
integer with an exact half away from zero; the deviations of an accumulator bank are its slot means less their mean, and
a level is the isqrt of the floored mean square. Of R117 and R118: the sine table by its values of the first quarter and
its symmetries, and the order amplitude. -/
def Obligations.RootsRoundingsAndTheWorstBandAreExact : Prop :=
  (∀ x : Nat, isqrt x * isqrt x ≤ x ∧ x < (isqrt x + 1) * (isqrt x + 1)) ∧
  (∀ (a : Int) (b : Nat), 0 < b →
    (0 ≤ a → 2 * a - b < 2 * b * roundDiv a b ∧ 2 * b * roundDiv a b ≤ 2 * a + b) ∧
    roundDiv (-a) b = -roundDiv a b) ∧
  (∀ d : List Int, levelOf d = isqrt ((d.map fun v => v * v).sum.toNat / 128)) ∧
  (∀ b : AccBank, b.deviations.length = b.slots.length ∧ ∀ s : Nat, s < b.slots.length →
    b.deviations.getD s 0 = roundDiv (b.slots.getD s ⟨0, 0⟩).sum (b.slots.getD s ⟨0, 0⟩).count -
      roundDiv (b.slots.map fun x => roundDiv x.sum x.count).sum 128) ∧
  ((List.range 33).map sine =
      ([0, 1608, 3212, 4808, 6393, 7962, 9512, 11039, 12540, 14010, 15447, 16846, 18205, 19520, 20788, 22006, 23170] ++
       [24279, 25330, 26320, 27246, 28106, 28899, 29622, 30274, 30853, 31357, 31786, 32138, 32413, 32610, 32729,
        32768]) ∧
    (∀ i : Nat, i ≤ 64 → sine (64 - i) = sine i ∧ sine (64 + i) = -sine i ∧ sine (128 - i) = -sine i) ∧
    ∀ i : Nat, sine (i + 128) = sine i) ∧
  (∀ (d : List Int) (k : Nat), d.length = 128 →
    let c : Int := ((List.range 128).map fun s => d.getD s 0 * sine ((k * s + 32) % 128)).sum
    let q : Int := ((List.range 128).map fun s => d.getD s 0 * sine (k * s % 128)).sum
    amplitudeOf d k = isqrt (c ^ 2 + q ^ 2).toNat / 2097152) ∧
  (∀ (drive coast : Nat) (b : BandFields) (bands : List BandFields) (x : Nat × Nat) (amps : List (Nat × Nat)),
    allPairs [] ⟨drive, coast, amps⟩ = [] ∧
    allPairs (b :: bands) ⟨drive, coast, x :: amps⟩ =
      (if b.driveLimit ≠ 0 then [⟨⟨b.order, .drive, x.1⟩, b.driveLimit⟩] else []) ++
      (if b.coastLimit ≠ 0 then [⟨⟨b.order, .coast, x.2⟩, b.coastLimit⟩] else []) ++
      allPairs bands ⟨drive, coast, amps⟩) ∧
  ∀ pairs : List CheckedPair, (∀ x ∈ pairs, 0 < x.limit) →
    (worstBand pairs = none ↔ pairs = []) ∧
    (pairs ≠ [] → ∃ (before after : List CheckedPair) (x : CheckedPair), pairs = before ++ x :: after ∧
      (∀ y ∈ before, y.band.amplitude * x.limit < x.band.amplitude * y.limit) ∧
      (∀ y ∈ after, y.band.amplitude * x.limit ≤ x.band.amplitude * y.limit) ∧
      worstBand pairs = some x.band)

/-! ## Leak analyzer (chapter 7) -/

/-- R127, R130, R132, R134, R135, R137: a RUNNING leak channel takes the oldest reading of its queue; an invalid one
is dropped; in FILL, SETTLE and MEASURE a valid one has the effect of Tables 7-3 and 7-5 and of R134 to R137. R131,
R133, R136, R138: the fill timer ends the stage GROSS_LEAK on the last fill pressure or 0, the settle timer begins
MEASURE with no start reading, the measure timer makes measure expired yes and starts the end-reading timer with 2,000
ms, and that one ends the stage NO_READING. -/
def Obligations.LeakReadingsAndTimersMoveTheTestOn : Prop :=
  (∀ (s : State) (c : LeakCh) (r : LeakReading) (rest : List LeakReading) (b : Binding),
     s.resetLow = false → (s.chan c.id).state = .running → (s.chan c.id).binding = some b →
     (s.leak c).queue = r :: rest →
     let f := s.leakFields c
     let a : LeakAnalyzer := { s.leak c with queue := rest }
     let goes := fun x : LeakAnalyzer => exec (.leakReadingTaken c) s = .next (s.setLeak c x)
     let ends := fun e : StageEnd => exec (.leakReadingTaken c) s = .next ((s.setLeak c a).endStage c.id e)
     (r = none → goes a) ∧
     ∀ p : LeakPoint, r = some p →
       (a.phase = some .fill →
         let kept : LeakAnalyzer := { a with lastFill := some p.pressure }
         (f.target + f.margin < p.pressure → ends ⟨.cutShort, .overpressure, none⟩) ∧
         (p.pressure ≤ f.target + f.margin → p.pressure + f.tolerance < f.target ∨ f.target + f.tolerance < p.pressure →
           goes kept) ∧
         (p.pressure ≤ f.target + f.margin → f.target ≤ p.pressure + f.tolerance → p.pressure ≤ f.target + f.tolerance →
           (f.settleMs ≠ 0 → goes { kept with fillTimer := none, phase := some .settle,
                                              settleTimer := some f.settleMs }) ∧
           (f.settleMs = 0 → goes { kept with fillTimer := none, phase := some .measure, settleTimer := none,
                                              startReading := none }))) ∧
       (a.phase = some .settle →
         (f.target + f.margin < p.pressure → ends ⟨.cutShort, .overpressure, none⟩) ∧
         (p.pressure + f.dropMax < f.target →
           ends ⟨.fail, .grossLeak, some (.leak 9999999 (f.target - p.pressure) false)⟩) ∧
         (p.pressure ≤ f.target + f.margin → f.target ≤ p.pressure + f.dropMax → goes a)) ∧
       (a.phase = some .measure →
         (a.measureExpired = false → a.startReading = none →
           goes { a with startReading := some p, measureTimer := some f.measureMs }) ∧
         (a.measureExpired = false → a.startReading.isSome = true → goes a) ∧
         (a.measureExpired = true → exec (.leakReadingTaken c) s = .next
           (((s.setLeak c { a with phase := some .evaluate, queue := [], endTimer := none,
                                   endReading := some p }).setChan c.id
             { s.chan c.id with stageTimer := none }).direct c.id .vent (b.handle.bytes ++ [b.stage.byte]))))) ∧
  ∀ (s : State) (c : LeakCh), s.resetLow = false → (s.chan c.id).state = .running →
    let a := s.leak c
    (a.fillTimer.isSome = true → exec (.fillTimerExpiry c) s = .next (s.endStage c.id ⟨.fail, .grossLeak,
      some (.leak 9999999 ((s.leakFields c).target - a.lastFill.getD 0) false)⟩)) ∧
    (a.settleTimer.isSome = true → exec (.leakSettleTimerExpiry c) s =
      .next (s.setLeak c { a with phase := some .measure, settleTimer := none, startReading := none })) ∧
    (a.measureTimer.isSome = true → exec (.measureTimerExpiry c) s =
      .next (s.setLeak c { a with measureTimer := none, measureExpired := true, endTimer := some 2000 })) ∧
    (a.endTimer.isSome = true →
      exec (.endReadingTimerExpiry c) s = .next (s.endStage c.id ⟨.cutShort, .noReading, none⟩))

/-- R140, R141: the evaluation in EVALUATE forms the compensated decay and the leak rate from the start reading and
the end reading, each within the ranges of a valid reading, in the widths and ranges the rules give. Beside them, of
R142: its end ends the stage FAIL DECAY where Q exceeds the leak limit and PASS otherwise, with Q, the decay and the
rise flag. -/
def Obligations.TheLeakEvaluationComparesQWithItsLimit : Prop :=
  ∀ (s : State) (c : LeakCh) (p q : LeakPoint), s.resetLow = false → (s.chan c.id).state = .running →
    (s.leak c).phase = some .evaluate → (s.leak c).startReading = some p → (s.leak c).endReading = some q →
    (∀ x ∈ [p, q], x.pressure ≤ 1000000 ∧ -4000 ≤ x.temperature ∧ x.temperature ≤ 15000) →
    let f := s.leakFields c
    let corrected := roundDiv (((q.pressure : Int) + 101325) * (p.temperature + 27315)) (q.temperature + 27315).toNat
    let drop : Int := (p.pressure : Int) + 101325 - corrected
    let decay : Nat := if drop < 0 then 0 else drop.toNat
    let rate : Nat := min 9999999 (decay * f.volume * 60000000 / (101325 * f.measureMs))
    let summary : Summary := .leak rate decay (decide (drop < 0))
    let t := s.setLeak c { s.leak c with results := some ⟨rate, decay, decide (drop < 0)⟩ }
    0 < q.temperature + 27315 ∧ ((q.pressure : Int) + 101325) * (p.temperature + 27315) < 2 ^ 36 ∧
    55829 ≤ corrected ∧ corrected ≤ 1998823 ∧ decay ≤ 1045496 ∧
    (f.volume ≤ 100000 → decay * f.volume * 60000000 < 2 ^ 63) ∧
    (f.measureMs ≤ 600000 → 101325 * f.measureMs < 2 ^ 36) ∧ rate ≤ 9999999 ∧
    (f.leakLimit < rate → exec (.leakEvaluationEnd c) s =
      .next (t.endStage c.id ⟨.fail, .decay, some summary⟩)) ∧
    (rate ≤ f.leakLimit → exec (.leakEvaluationEnd c) s = .next (t.endStage c.id ⟨.pass, .none, some summary⟩))

/-! ## What every step keeps -/

/-- The links: port 0 alone SUPERVISOR, every other role at one port at most, at most 8 unsent notices a port, an
assembly short of complete, a held request of its length (R159 to R163). -/
def Obligations.EveryStepKeepsTheLinksInOrder : Prop :=
  ∀ s t : State, LinkInv s → step s = .next t → LinkInv t

/-- The channels and postings: Table 3-2, at most one posting per channel, each of a channel ENDING with the posting's
handle and stage, and one for every channel ENDING; analyzers at rest outside RUNNING (R47, R57, R58); each timer of a
leak analyzer only in its phase (R126, R129 to R138). -/
def Obligations.EveryStepKeepsChannelsAndPostingsInOrder : Prop :=
  ∀ s t : State, ChannelInv s → step s = .next t → ChannelInv t

/-- The claims: a stage is CLAIMED or RUNNING exactly when one channel's binding names that file's current handle and
that stage, its channel field names that channel, and a file has at most one such stage (R7, R47). -/
def Obligations.EveryStepKeepsBindingsAndStagesTogether : Prop :=
  ∀ s t : State, ChannelInv s → ClaimInv s → step s = .next t → ClaimInv t

/-- The recipe store: a bank with users is READY, a READY bank has passed validation and keeps its counts, an EMPTY bank
is 0, the cursor stands within its table, a window's base lies within its mask (R26, R27, R30, R38, R42). -/
def Obligations.EveryStepKeepsTheRecipeStoreInOrder : Prop :=
  ∀ s t : State, StoreInv s → step s = .next t → StoreInv t

/-- The file table: the serial index, the line order list and the banks' user counts name the live files, each once
(R9 to R12, R27), where the recipe store is in order (EveryStepKeepsTheRecipeStoreInOrder). -/
def Obligations.EveryStepKeepsTheFileTableInOrder : Prop :=
  ∀ s t : State, StoreInv s → FileTableInv s → step s = .next t → FileTableInv t

/-- The file records: characters, order number, holds list, stored verdict, reopen counts, and last outcomes complete
for their stages (R3, R4, R6, R7, R8, R13); the words of a record that stand in error in the order they are read
(R178). -/
def Obligations.EveryStepKeepsTheFilesOwnFieldsInOrder : Prop :=
  ∀ s t : State, ChannelInv s → FileInv s → step s = .next t → FileInv t

/-- The attempts: a WAIVED stage is one the bank does not require, and no stage is attempted more often than the retry
limit of its bank allows (R7, R32, R55, R60). -/
def Obligations.EveryStepKeepsAttemptsWithinTheRetryLimit : Prop :=
  ∀ s t : State, ChannelInv s → ClaimInv s → StoreInv s → FileTableInv s → AttemptInv s → step s = .next t →
    AttemptInv t

/-- The queues and buffers: 16 readings, 64 FIFO entries, 4,096 samples, 128 slots, one fold at a time (R70, R98, R105,
R108, R128). -/
def Obligations.EveryStepKeepsQueuesAndBuffersWithinTheirLimits : Prop :=
  ∀ s t : State, QueueInv s → step s = .next t → QueueInv t

/-- The machine right after reset meets all of them. -/
def Obligations.ResetMeetsEveryStandingCondition : Prop :=
  LinkInv .reset ∧ ChannelInv .reset ∧ ClaimInv .reset ∧ StoreInv .reset ∧ FileTableInv .reset ∧ FileInv .reset ∧
  AttemptInv .reset ∧ QueueInv .reset
end

