-- ==== Sys2Proof/Laws/Contents.lean ====
section
/-! SUPPORT. The contents of a recipe bank entry by entry, the bytes of numbers, and the lengths of what answers
carry. -/

namespace Sys2Proof.Machine

/-- An entry has at least one word (R32 to R36). -/
theorem Table.width_pos (t : Table) : 0 < t.width := by cases t <;> decide

/-- A table written is read back, and the others stay. -/
theorem Contents.table_setTable (c : Contents) (t u : Table) (es) :
    (c.setTable t es).table u = if t = u then es else c.table u := by
  cases t <;> cases u <;> rfl

/-- A bank's tables have their numbers of entries. -/
theorem Contents.shaped_length {c : Contents} (h : c.shaped) (t : Table) :
    (c.table t).length = t.entries :=
  (h t (by cases t <;> simp)).1

/-- Writing a whole entry keeps the tables' shape. -/
theorem Contents.shaped_setEntry {c : Contents} (h : c.shaped) (t i) (e : List Word) (he : e.length = t.width) :
    (c.setEntry t i e).shaped := by
  intro u hu
  unfold Contents.setEntry
  rw [Contents.table_setTable]
  split
  · rename_i x; subst x
    refine ⟨by simp [Contents.shaped_length h], fun x hx => ?_⟩
    rcases List.mem_or_eq_of_mem_set hx with hx | hx
    · exact (h t hu).2 x hx
    · rw [hx, he]
  · exact h u hu

/-- An entry written is read back, and the other entries of its table stay. -/
theorem Contents.entry_setEntry {c : Contents} (h : c.shaped) (t i j) (e : List Word) (hi : i < t.entries) :
   (c.setEntry t i e).entry t j = if i = j then e else c.entry t j := by
  simp only [Contents.setEntry, Contents.entry, Contents.table_setTable, if_true]
  simp [List.getD_eq_getElem?_getD, List.getElem?_set, Contents.shaped_length h]
  split
  · rename_i x; subst x; simp
  · rfl

/-- A number of so many bytes is so many bytes (R173). -/
theorem bytesOf_length (n v) : (bytesOf n v).length = n := by
  induction n <;> simp [bytesOf, *]

/-- A number's bytes end with its least significant byte (R173). -/
theorem bytesOf_succ (n v : Nat) : bytesOf (n + 1) v = bytesOf n (v / 256) ++ [BitVec.ofNat 8 v] := by
  induction n generalizing v with
  | zero => simp [bytesOf]
  | succ n ih =>
    show BitVec.ofNat 8 (v / 256 ^ (n + 1)) :: bytesOf (n + 1) v =
      BitVec.ofNat 8 (v / 256 / 256 ^ n) :: bytesOf n (v / 256) ++ _
    rw [ih, Nat.div_div_eq_div_mul, Nat.pow_succ, Nat.mul_comm]; rfl

/-- Bytes of 0 (R173). -/
theorem bytesOf_zero (n : Nat) : bytesOf n 0 = List.replicate n 0 := by
  induction n with
  | zero => rfl
  | succ n ih => simp [bytesOf, ih, List.replicate_succ]

/-- Two bytes as a number (R173). -/
theorem natOf_two (b1 b0 : Byte) : natOf [b1, b0] = 256 * b1.toNat + b0.toNat := by simp [natOf]; omega

/-- Four bytes as a number (R173). -/
theorem natOf_four (b3 b2 b1 b0 : Byte) :
    natOf [b3, b2, b1, b0] = 16777216 * b3.toNat + 65536 * b2.toNat + 256 * b1.toNat + b0.toNat := by
  simp [natOf]; omega

/-- Two bytes as a signed number, by the most significant bit (R173). -/
theorem intOf_two (b1 b0 : Byte) : intOf [b1, b0] =
    if b1.toNat < 128 then (256 * b1.toNat + b0.toNat : Int) else 256 * b1.toNat + b0.toNat - 65536 := by
  have h0 := b0.isLt
  have hc : 2 * natOf [b1, b0] < 256 ^ [b1, b0].length ↔ b1.toNat < 128 := by
    rw [natOf_two, show 256 ^ [b1, b0].length = 65536 by norm_num]; omega
  unfold intOf
  by_cases h : b1.toNat < 128
  · rw [if_pos (hc.2 h), if_pos h, natOf_two]; push_cast; rfl
  · rw [if_neg (fun x => h (hc.1 x)), if_neg h, natOf_two,
      show (256 : Int) ^ [b1, b0].length = 65536 by norm_num]; push_cast; rfl

/-- Four bytes as a signed number, by the most significant bit (R173). -/
theorem intOf_four (b3 b2 b1 b0 : Byte) : intOf [b3, b2, b1, b0] =
    if b3.toNat < 128 then (16777216 * b3.toNat + 65536 * b2.toNat + 256 * b1.toNat + b0.toNat : Int)
    else 16777216 * b3.toNat + 65536 * b2.toNat + 256 * b1.toNat + b0.toNat - 4294967296 := by
  have h0 := b0.isLt; have h1 := b1.isLt; have h2 := b2.isLt
  have hc : 2 * natOf [b3, b2, b1, b0] < 256 ^ [b3, b2, b1, b0].length ↔ b3.toNat < 128 := by
    rw [natOf_four, show 256 ^ [b3, b2, b1, b0].length = 4294967296 by norm_num]; omega
  unfold intOf
  by_cases h : b3.toNat < 128
  · rw [if_pos (hc.2 h), if_pos h, natOf_four]; push_cast; rfl
  · rw [if_neg (fun x => h (hc.1 x)), if_neg h, natOf_four,
      show (256 : Int) ^ [b3, b2, b1, b0].length = 4294967296 by norm_num]; push_cast; rfl

/-- A valid value is one flagged valid that lies within its range (R69, R127). -/
theorem validValue_eq (flag : Bool) (lo hi v : Int) :
    validValue flag lo hi v = if flag = true ∧ lo ≤ v ∧ v ≤ hi then some v else none := by
  simp [validValue, and_assoc]

/-- A summary has the length of its stage's (R176). -/
theorem Summary.bytes_length (x : Summary) : x.bytes.length = x.stage.summaryLength := by
  cases x with
  | noise d c w => cases w <;> simp [Summary.bytes, Summary.stage, Stage.summaryLength, bytesOf_length]
  | _ => simp [Summary.bytes, Summary.stage, Stage.summaryLength, bytesOf_length, bytesOfInt]

/-- A stage block is four bytes and the summary's (R176). -/
theorem StageRecord.block_length (r : StageRecord) (t : Stage) (h : ∀ e ∈ r.last, ∀ x ∈ e.summary, x.stage = t) :
    (r.block t).length = 4 + t.summaryLength := by
  unfold StageRecord.block
  split
  · rename_i a b x hx
    have := h _ hx x rfl
    simp [Summary.bytes_length, this]; omega
  · simp [bytesOf_length]; omega

/-- What a list gives while a condition holds: the condition holds on it, and fails right after it. -/
theorem takeWhile_ends_at_the_first_failure {α : Type} (p : α → Bool) (d : α) (l : List α) :
    (l.takeWhile p).length ≤ l.length ∧ (∀ i, i < (l.takeWhile p).length → p (l.getD i d) = true) ∧
    ((l.takeWhile p).length < l.length → p (l.getD (l.takeWhile p).length d) = false) := by
  induction l with
  | nil => simp
  | cons a l ih =>
    by_cases h : p a
    · simp only [List.takeWhile_cons, h, if_true, List.length_cons]
      refine ⟨by omega, fun i hi => ?_, fun hi => by simpa using ih.2.2 (by omega)⟩
      cases i with
      | zero => simpa using h
      | succ i => simpa using ih.2.1 i (by omega)
    · simp [h]

/-- The step count is the index of the first STEPS entry of duration 0, or the number of entries (R30). -/
theorem Contents.countSteps_spec (c : Contents) :
    c.countSteps ≤ c.steps.length ∧
    (∀ i, i < c.countSteps → (stepFieldsOf (c.steps.getD i [])).durationS ≠ 0) ∧
    (c.countSteps < c.steps.length → (stepFieldsOf (c.steps.getD c.countSteps [])).durationS = 0) := by
  have h := takeWhile_ends_at_the_first_failure (fun e => (stepFieldsOf e).durationS != 0) [] c.steps
  exact ⟨h.1, fun i hi => bne_iff_ne.1 (h.2.1 i hi), fun hi => bne_eq_false_iff_eq.1 (h.2.2 hi)⟩

/-- The band count is the index of the first BANDS entry of order 0, or the number of entries (R30). -/
theorem Contents.countBands_spec (c : Contents) :
    c.countBands ≤ c.bands.length ∧
    (∀ i, i < c.countBands → (bandFieldsOf (c.bands.getD i [])).order ≠ 0) ∧
    (c.countBands < c.bands.length → (bandFieldsOf (c.bands.getD c.countBands [])).order = 0) := by
  have h := takeWhile_ends_at_the_first_failure (fun e => (bandFieldsOf e).order != 0) [] c.bands
  exact ⟨h.1, fun i hi => bne_iff_ne.1 (h.2.1 i hi), fun hi => bne_eq_false_iff_eq.1 (h.2.2 hi)⟩

end Sys2Proof.Machine
end

