-- ==== Sys2Proof/Laws/State.lean ====
section
/-! SUPPORT. One lemma per update and field: what each named update of the state leaves as it was. -/

namespace Sys2Proof.Machine

variable (s : State)

/-! ### setPort -/

@[simp] theorem State.setPort_pending (p : PortId) (v : Port) : (s.setPort p v).pending = s.pending := rfl
@[simp] theorem State.setPort_resetLow (p : PortId) (v : Port) : (s.setPort p v).resetLow = s.resetLow := rfl
@[simp] theorem State.setPort_arbiter (p : PortId) (v : Port) : (s.setPort p v).arbiter = s.arbiter := rfl
@[simp] theorem State.setPort_engine (p : PortId) (v : Port) : (s.setPort p v).engine = s.engine := rfl
@[simp] theorem State.setPort_store (p : PortId) (v : Port) : (s.setPort p v).store = s.store := rfl
@[simp] theorem State.setPort_chans (p : PortId) (v : Port) : (s.setPort p v).chans = s.chans := rfl
@[simp] theorem State.setPort_monitors (p : PortId) (v : Port) : (s.setPort p v).monitors = s.monitors := rfl
@[simp] theorem State.setPort_audio (p : PortId) (v : Port) : (s.setPort p v).audio = s.audio := rfl
@[simp] theorem State.setPort_input (p : PortId) (v : Port) : (s.setPort p v).input = s.input := rfl
@[simp] theorem State.setPort_noise (p : PortId) (v : Port) : (s.setPort p v).noise = s.noise := rfl
@[simp] theorem State.setPort_leaks (p : PortId) (v : Port) : (s.setPort p v).leaks = s.leaks := rfl
@[simp] theorem State.setPort_router (p : PortId) (v : Port) : (s.setPort p v).router = s.router := rfl

/-! ### setChan -/

@[simp] theorem State.setChan_pending (c : ChannelId) (v : Channel) : (s.setChan c v).pending = s.pending := rfl
@[simp] theorem State.setChan_resetLow (c : ChannelId) (v : Channel) : (s.setChan c v).resetLow = s.resetLow := rfl
@[simp] theorem State.setChan_ports (c : ChannelId) (v : Channel) : (s.setChan c v).ports = s.ports := rfl
@[simp] theorem State.setChan_arbiter (c : ChannelId) (v : Channel) : (s.setChan c v).arbiter = s.arbiter := rfl
@[simp] theorem State.setChan_engine (c : ChannelId) (v : Channel) : (s.setChan c v).engine = s.engine := rfl
@[simp] theorem State.setChan_store (c : ChannelId) (v : Channel) : (s.setChan c v).store = s.store := rfl
@[simp] theorem State.setChan_monitors (c : ChannelId) (v : Channel) : (s.setChan c v).monitors = s.monitors := rfl
@[simp] theorem State.setChan_audio (c : ChannelId) (v : Channel) : (s.setChan c v).audio = s.audio := rfl
@[simp] theorem State.setChan_input (c : ChannelId) (v : Channel) : (s.setChan c v).input = s.input := rfl
@[simp] theorem State.setChan_noise (c : ChannelId) (v : Channel) : (s.setChan c v).noise = s.noise := rfl
@[simp] theorem State.setChan_leaks (c : ChannelId) (v : Channel) : (s.setChan c v).leaks = s.leaks := rfl
@[simp] theorem State.setChan_router (c : ChannelId) (v : Channel) : (s.setChan c v).router = s.router := rfl

/-! ### setMonitor -/

@[simp] theorem State.setMonitor_pending (c : RunInCh) (m : Monitor) : (s.setMonitor c m).pending = s.pending := by cases c <;> rfl
@[simp] theorem State.setMonitor_resetLow (c : RunInCh) (m : Monitor) : (s.setMonitor c m).resetLow = s.resetLow := by cases c <;> rfl
@[simp] theorem State.setMonitor_ports (c : RunInCh) (m : Monitor) : (s.setMonitor c m).ports = s.ports := by cases c <;> rfl
@[simp] theorem State.setMonitor_arbiter (c : RunInCh) (m : Monitor) : (s.setMonitor c m).arbiter = s.arbiter := by cases c <;> rfl
@[simp] theorem State.setMonitor_engine (c : RunInCh) (m : Monitor) : (s.setMonitor c m).engine = s.engine := by cases c <;> rfl
@[simp] theorem State.setMonitor_store (c : RunInCh) (m : Monitor) : (s.setMonitor c m).store = s.store := by cases c <;> rfl
@[simp] theorem State.setMonitor_chans (c : RunInCh) (m : Monitor) : (s.setMonitor c m).chans = s.chans := by cases c <;> rfl
@[simp] theorem State.setMonitor_audio (c : RunInCh) (m : Monitor) : (s.setMonitor c m).audio = s.audio := by cases c <;> rfl
@[simp] theorem State.setMonitor_input (c : RunInCh) (m : Monitor) : (s.setMonitor c m).input = s.input := by cases c <;> rfl
@[simp] theorem State.setMonitor_noise (c : RunInCh) (m : Monitor) : (s.setMonitor c m).noise = s.noise := by cases c <;> rfl
@[simp] theorem State.setMonitor_leaks (c : RunInCh) (m : Monitor) : (s.setMonitor c m).leaks = s.leaks := by cases c <;> rfl
@[simp] theorem State.setMonitor_router (c : RunInCh) (m : Monitor) : (s.setMonitor c m).router = s.router := by cases c <;> rfl

/-! ### setLeak -/

@[simp] theorem State.setLeak_pending (c : LeakCh) (m : LeakAnalyzer) : (s.setLeak c m).pending = s.pending := by cases c <;> rfl
@[simp] theorem State.setLeak_resetLow (c : LeakCh) (m : LeakAnalyzer) : (s.setLeak c m).resetLow = s.resetLow := by cases c <;> rfl
@[simp] theorem State.setLeak_ports (c : LeakCh) (m : LeakAnalyzer) : (s.setLeak c m).ports = s.ports := by cases c <;> rfl
@[simp] theorem State.setLeak_arbiter (c : LeakCh) (m : LeakAnalyzer) : (s.setLeak c m).arbiter = s.arbiter := by cases c <;> rfl
@[simp] theorem State.setLeak_engine (c : LeakCh) (m : LeakAnalyzer) : (s.setLeak c m).engine = s.engine := by cases c <;> rfl
@[simp] theorem State.setLeak_store (c : LeakCh) (m : LeakAnalyzer) : (s.setLeak c m).store = s.store := by cases c <;> rfl
@[simp] theorem State.setLeak_chans (c : LeakCh) (m : LeakAnalyzer) : (s.setLeak c m).chans = s.chans := by cases c <;> rfl
@[simp] theorem State.setLeak_monitors (c : LeakCh) (m : LeakAnalyzer) : (s.setLeak c m).monitors = s.monitors := by cases c <;> rfl
@[simp] theorem State.setLeak_audio (c : LeakCh) (m : LeakAnalyzer) : (s.setLeak c m).audio = s.audio := by cases c <;> rfl
@[simp] theorem State.setLeak_input (c : LeakCh) (m : LeakAnalyzer) : (s.setLeak c m).input = s.input := by cases c <;> rfl
@[simp] theorem State.setLeak_noise (c : LeakCh) (m : LeakAnalyzer) : (s.setLeak c m).noise = s.noise := by cases c <;> rfl
@[simp] theorem State.setLeak_router (c : LeakCh) (m : LeakAnalyzer) : (s.setLeak c m).router = s.router := by cases c <;> rfl

/-! ### setSlot -/

@[simp] theorem State.setSlot_pending (i : SlotId) (v : Slot) : (s.setSlot i v).pending = s.pending := rfl
@[simp] theorem State.setSlot_resetLow (i : SlotId) (v : Slot) : (s.setSlot i v).resetLow = s.resetLow := rfl
@[simp] theorem State.setSlot_ports (i : SlotId) (v : Slot) : (s.setSlot i v).ports = s.ports := rfl
@[simp] theorem State.setSlot_arbiter (i : SlotId) (v : Slot) : (s.setSlot i v).arbiter = s.arbiter := rfl
@[simp] theorem State.setSlot_store (i : SlotId) (v : Slot) : (s.setSlot i v).store = s.store := rfl
@[simp] theorem State.setSlot_chans (i : SlotId) (v : Slot) : (s.setSlot i v).chans = s.chans := rfl
@[simp] theorem State.setSlot_monitors (i : SlotId) (v : Slot) : (s.setSlot i v).monitors = s.monitors := rfl
@[simp] theorem State.setSlot_audio (i : SlotId) (v : Slot) : (s.setSlot i v).audio = s.audio := rfl
@[simp] theorem State.setSlot_input (i : SlotId) (v : Slot) : (s.setSlot i v).input = s.input := rfl
@[simp] theorem State.setSlot_noise (i : SlotId) (v : Slot) : (s.setSlot i v).noise = s.noise := rfl
@[simp] theorem State.setSlot_leaks (i : SlotId) (v : Slot) : (s.setSlot i v).leaks = s.leaks := rfl
@[simp] theorem State.setSlot_router (i : SlotId) (v : Slot) : (s.setSlot i v).router = s.router := rfl

/-! ### setFile -/

@[simp] theorem State.setFile_pending (i : SlotId) (f : FileRec) : (s.setFile i f).pending = s.pending := rfl
@[simp] theorem State.setFile_resetLow (i : SlotId) (f : FileRec) : (s.setFile i f).resetLow = s.resetLow := rfl
@[simp] theorem State.setFile_ports (i : SlotId) (f : FileRec) : (s.setFile i f).ports = s.ports := rfl
@[simp] theorem State.setFile_arbiter (i : SlotId) (f : FileRec) : (s.setFile i f).arbiter = s.arbiter := rfl
@[simp] theorem State.setFile_store (i : SlotId) (f : FileRec) : (s.setFile i f).store = s.store := rfl
@[simp] theorem State.setFile_chans (i : SlotId) (f : FileRec) : (s.setFile i f).chans = s.chans := rfl
@[simp] theorem State.setFile_monitors (i : SlotId) (f : FileRec) : (s.setFile i f).monitors = s.monitors := rfl
@[simp] theorem State.setFile_audio (i : SlotId) (f : FileRec) : (s.setFile i f).audio = s.audio := rfl
@[simp] theorem State.setFile_input (i : SlotId) (f : FileRec) : (s.setFile i f).input = s.input := rfl
@[simp] theorem State.setFile_noise (i : SlotId) (f : FileRec) : (s.setFile i f).noise = s.noise := rfl
@[simp] theorem State.setFile_leaks (i : SlotId) (f : FileRec) : (s.setFile i f).leaks = s.leaks := rfl
@[simp] theorem State.setFile_router (i : SlotId) (f : FileRec) : (s.setFile i f).router = s.router := rfl

/-! ### setErrors -/

@[simp] theorem State.setErrors_pending (i : SlotId) (errs : RecordErrors) : (s.setErrors i errs).pending = s.pending := rfl
@[simp] theorem State.setErrors_resetLow (i : SlotId) (errs : RecordErrors) : (s.setErrors i errs).resetLow = s.resetLow := rfl
@[simp] theorem State.setErrors_ports (i : SlotId) (errs : RecordErrors) : (s.setErrors i errs).ports = s.ports := rfl
@[simp] theorem State.setErrors_arbiter (i : SlotId) (errs : RecordErrors) : (s.setErrors i errs).arbiter = s.arbiter := rfl
@[simp] theorem State.setErrors_store (i : SlotId) (errs : RecordErrors) : (s.setErrors i errs).store = s.store := rfl
@[simp] theorem State.setErrors_chans (i : SlotId) (errs : RecordErrors) : (s.setErrors i errs).chans = s.chans := rfl
@[simp] theorem State.setErrors_monitors (i : SlotId) (errs : RecordErrors) : (s.setErrors i errs).monitors = s.monitors := rfl
@[simp] theorem State.setErrors_audio (i : SlotId) (errs : RecordErrors) : (s.setErrors i errs).audio = s.audio := rfl
@[simp] theorem State.setErrors_input (i : SlotId) (errs : RecordErrors) : (s.setErrors i errs).input = s.input := rfl
@[simp] theorem State.setErrors_noise (i : SlotId) (errs : RecordErrors) : (s.setErrors i errs).noise = s.noise := rfl
@[simp] theorem State.setErrors_leaks (i : SlotId) (errs : RecordErrors) : (s.setErrors i errs).leaks = s.leaks := rfl
@[simp] theorem State.setErrors_router (i : SlotId) (errs : RecordErrors) : (s.setErrors i errs).router = s.router := rfl

/-! ### disturb -/

@[simp] theorem State.disturb_pending (ds : Disturbances) : (s.disturb ds).pending = s.pending := rfl
@[simp] theorem State.disturb_resetLow (ds : Disturbances) : (s.disturb ds).resetLow = s.resetLow := rfl
@[simp] theorem State.disturb_ports (ds : Disturbances) : (s.disturb ds).ports = s.ports := rfl
@[simp] theorem State.disturb_arbiter (ds : Disturbances) : (s.disturb ds).arbiter = s.arbiter := rfl
@[simp] theorem State.disturb_store (ds : Disturbances) : (s.disturb ds).store = s.store := rfl
@[simp] theorem State.disturb_chans (ds : Disturbances) : (s.disturb ds).chans = s.chans := rfl
@[simp] theorem State.disturb_monitors (ds : Disturbances) : (s.disturb ds).monitors = s.monitors := rfl
@[simp] theorem State.disturb_audio (ds : Disturbances) : (s.disturb ds).audio = s.audio := rfl
@[simp] theorem State.disturb_input (ds : Disturbances) : (s.disturb ds).input = s.input := rfl
@[simp] theorem State.disturb_noise (ds : Disturbances) : (s.disturb ds).noise = s.noise := rfl
@[simp] theorem State.disturb_leaks (ds : Disturbances) : (s.disturb ds).leaks = s.leaks := rfl
@[simp] theorem State.disturb_router (ds : Disturbances) : (s.disturb ds).router = s.router := rfl

/-! ### setBank -/

@[simp] theorem State.setBank_pending (b : BankId) (v : Bank) : (s.setBank b v).pending = s.pending := rfl
@[simp] theorem State.setBank_resetLow (b : BankId) (v : Bank) : (s.setBank b v).resetLow = s.resetLow := rfl
@[simp] theorem State.setBank_ports (b : BankId) (v : Bank) : (s.setBank b v).ports = s.ports := rfl
@[simp] theorem State.setBank_arbiter (b : BankId) (v : Bank) : (s.setBank b v).arbiter = s.arbiter := rfl
@[simp] theorem State.setBank_engine (b : BankId) (v : Bank) : (s.setBank b v).engine = s.engine := rfl
@[simp] theorem State.setBank_chans (b : BankId) (v : Bank) : (s.setBank b v).chans = s.chans := rfl
@[simp] theorem State.setBank_monitors (b : BankId) (v : Bank) : (s.setBank b v).monitors = s.monitors := rfl
@[simp] theorem State.setBank_audio (b : BankId) (v : Bank) : (s.setBank b v).audio = s.audio := rfl
@[simp] theorem State.setBank_input (b : BankId) (v : Bank) : (s.setBank b v).input = s.input := rfl
@[simp] theorem State.setBank_noise (b : BankId) (v : Bank) : (s.setBank b v).noise = s.noise := rfl
@[simp] theorem State.setBank_leaks (b : BankId) (v : Bank) : (s.setBank b v).leaks = s.leaks := rfl
@[simp] theorem State.setBank_router (b : BankId) (v : Bank) : (s.setBank b v).router = s.router := rfl

/-! ### setCursor -/

@[simp] theorem State.setCursor_pending (cur : Option Cursor) : (s.setCursor cur).pending = s.pending := rfl
@[simp] theorem State.setCursor_resetLow (cur : Option Cursor) : (s.setCursor cur).resetLow = s.resetLow := rfl
@[simp] theorem State.setCursor_ports (cur : Option Cursor) : (s.setCursor cur).ports = s.ports := rfl
@[simp] theorem State.setCursor_arbiter (cur : Option Cursor) : (s.setCursor cur).arbiter = s.arbiter := rfl
@[simp] theorem State.setCursor_engine (cur : Option Cursor) : (s.setCursor cur).engine = s.engine := rfl
@[simp] theorem State.setCursor_chans (cur : Option Cursor) : (s.setCursor cur).chans = s.chans := rfl
@[simp] theorem State.setCursor_monitors (cur : Option Cursor) : (s.setCursor cur).monitors = s.monitors := rfl
@[simp] theorem State.setCursor_audio (cur : Option Cursor) : (s.setCursor cur).audio = s.audio := rfl
@[simp] theorem State.setCursor_input (cur : Option Cursor) : (s.setCursor cur).input = s.input := rfl
@[simp] theorem State.setCursor_noise (cur : Option Cursor) : (s.setCursor cur).noise = s.noise := rfl
@[simp] theorem State.setCursor_leaks (cur : Option Cursor) : (s.setCursor cur).leaks = s.leaks := rfl
@[simp] theorem State.setCursor_router (cur : Option Cursor) : (s.setCursor cur).router = s.router := rfl

/-! ### hand -/

@[simp] theorem State.hand_pending (p : PortId) (f : Frame) : (s.hand p f).pending = s.pending := rfl
@[simp] theorem State.hand_resetLow (p : PortId) (f : Frame) : (s.hand p f).resetLow = s.resetLow := rfl
@[simp] theorem State.hand_arbiter (p : PortId) (f : Frame) : (s.hand p f).arbiter = s.arbiter := rfl
@[simp] theorem State.hand_engine (p : PortId) (f : Frame) : (s.hand p f).engine = s.engine := rfl
@[simp] theorem State.hand_store (p : PortId) (f : Frame) : (s.hand p f).store = s.store := rfl
@[simp] theorem State.hand_chans (p : PortId) (f : Frame) : (s.hand p f).chans = s.chans := rfl
@[simp] theorem State.hand_monitors (p : PortId) (f : Frame) : (s.hand p f).monitors = s.monitors := rfl
@[simp] theorem State.hand_audio (p : PortId) (f : Frame) : (s.hand p f).audio = s.audio := rfl
@[simp] theorem State.hand_input (p : PortId) (f : Frame) : (s.hand p f).input = s.input := rfl
@[simp] theorem State.hand_noise (p : PortId) (f : Frame) : (s.hand p f).noise = s.noise := rfl
@[simp] theorem State.hand_leaks (p : PortId) (f : Frame) : (s.hand p f).leaks = s.leaks := rfl
@[simp] theorem State.hand_router (p : PortId) (f : Frame) : (s.hand p f).router = s.router := rfl

/-! ### answer -/

@[simp] theorem State.answer_pending (p : PortId) (tag : Byte) (code : AnswerCode) (data : List Byte) : (s.answer p tag code data).pending = s.pending := rfl
@[simp] theorem State.answer_resetLow (p : PortId) (tag : Byte) (code : AnswerCode) (data : List Byte) : (s.answer p tag code data).resetLow = s.resetLow := rfl
@[simp] theorem State.answer_arbiter (p : PortId) (tag : Byte) (code : AnswerCode) (data : List Byte) : (s.answer p tag code data).arbiter = s.arbiter := rfl
@[simp] theorem State.answer_engine (p : PortId) (tag : Byte) (code : AnswerCode) (data : List Byte) : (s.answer p tag code data).engine = s.engine := rfl
@[simp] theorem State.answer_store (p : PortId) (tag : Byte) (code : AnswerCode) (data : List Byte) : (s.answer p tag code data).store = s.store := rfl
@[simp] theorem State.answer_chans (p : PortId) (tag : Byte) (code : AnswerCode) (data : List Byte) : (s.answer p tag code data).chans = s.chans := rfl
@[simp] theorem State.answer_monitors (p : PortId) (tag : Byte) (code : AnswerCode) (data : List Byte) : (s.answer p tag code data).monitors = s.monitors := rfl
@[simp] theorem State.answer_audio (p : PortId) (tag : Byte) (code : AnswerCode) (data : List Byte) : (s.answer p tag code data).audio = s.audio := rfl
@[simp] theorem State.answer_input (p : PortId) (tag : Byte) (code : AnswerCode) (data : List Byte) : (s.answer p tag code data).input = s.input := rfl
@[simp] theorem State.answer_noise (p : PortId) (tag : Byte) (code : AnswerCode) (data : List Byte) : (s.answer p tag code data).noise = s.noise := rfl
@[simp] theorem State.answer_leaks (p : PortId) (tag : Byte) (code : AnswerCode) (data : List Byte) : (s.answer p tag code data).leaks = s.leaks := rfl
@[simp] theorem State.answer_router (p : PortId) (tag : Byte) (code : AnswerCode) (data : List Byte) : (s.answer p tag code data).router = s.router := rfl

/-! ### ownAnswer -/

@[simp] theorem State.ownAnswer_pending (p : PortId) (tag : Byte) (code : AnswerCode) : (s.ownAnswer p tag code).pending = s.pending := rfl
@[simp] theorem State.ownAnswer_resetLow (p : PortId) (tag : Byte) (code : AnswerCode) : (s.ownAnswer p tag code).resetLow = s.resetLow := rfl
@[simp] theorem State.ownAnswer_arbiter (p : PortId) (tag : Byte) (code : AnswerCode) : (s.ownAnswer p tag code).arbiter = s.arbiter := rfl
@[simp] theorem State.ownAnswer_engine (p : PortId) (tag : Byte) (code : AnswerCode) : (s.ownAnswer p tag code).engine = s.engine := rfl
@[simp] theorem State.ownAnswer_store (p : PortId) (tag : Byte) (code : AnswerCode) : (s.ownAnswer p tag code).store = s.store := rfl
@[simp] theorem State.ownAnswer_chans (p : PortId) (tag : Byte) (code : AnswerCode) : (s.ownAnswer p tag code).chans = s.chans := rfl
@[simp] theorem State.ownAnswer_monitors (p : PortId) (tag : Byte) (code : AnswerCode) : (s.ownAnswer p tag code).monitors = s.monitors := rfl
@[simp] theorem State.ownAnswer_audio (p : PortId) (tag : Byte) (code : AnswerCode) : (s.ownAnswer p tag code).audio = s.audio := rfl
@[simp] theorem State.ownAnswer_input (p : PortId) (tag : Byte) (code : AnswerCode) : (s.ownAnswer p tag code).input = s.input := rfl
@[simp] theorem State.ownAnswer_noise (p : PortId) (tag : Byte) (code : AnswerCode) : (s.ownAnswer p tag code).noise = s.noise := rfl
@[simp] theorem State.ownAnswer_leaks (p : PortId) (tag : Byte) (code : AnswerCode) : (s.ownAnswer p tag code).leaks = s.leaks := rfl
@[simp] theorem State.ownAnswer_router (p : PortId) (tag : Byte) (code : AnswerCode) : (s.ownAnswer p tag code).router = s.router := rfl

/-! ### setGarbled -/

@[simp] theorem State.setGarbled_pending (p : PortId) : (s.setGarbled p).pending = s.pending := rfl
@[simp] theorem State.setGarbled_resetLow (p : PortId) : (s.setGarbled p).resetLow = s.resetLow := rfl
@[simp] theorem State.setGarbled_arbiter (p : PortId) : (s.setGarbled p).arbiter = s.arbiter := rfl
@[simp] theorem State.setGarbled_engine (p : PortId) : (s.setGarbled p).engine = s.engine := rfl
@[simp] theorem State.setGarbled_store (p : PortId) : (s.setGarbled p).store = s.store := rfl
@[simp] theorem State.setGarbled_chans (p : PortId) : (s.setGarbled p).chans = s.chans := rfl
@[simp] theorem State.setGarbled_monitors (p : PortId) : (s.setGarbled p).monitors = s.monitors := rfl
@[simp] theorem State.setGarbled_audio (p : PortId) : (s.setGarbled p).audio = s.audio := rfl
@[simp] theorem State.setGarbled_input (p : PortId) : (s.setGarbled p).input = s.input := rfl
@[simp] theorem State.setGarbled_noise (p : PortId) : (s.setGarbled p).noise = s.noise := rfl
@[simp] theorem State.setGarbled_leaks (p : PortId) : (s.setGarbled p).leaks = s.leaks := rfl
@[simp] theorem State.setGarbled_router (p : PortId) : (s.setGarbled p).router = s.router := rfl

/-! ### clearFlags -/

@[simp] theorem State.clearFlags_pending : (s.clearFlags).pending = s.pending := rfl
@[simp] theorem State.clearFlags_resetLow : (s.clearFlags).resetLow = s.resetLow := rfl
@[simp] theorem State.clearFlags_arbiter : (s.clearFlags).arbiter = s.arbiter := rfl
@[simp] theorem State.clearFlags_engine : (s.clearFlags).engine = s.engine := rfl
@[simp] theorem State.clearFlags_store : (s.clearFlags).store = s.store := rfl
@[simp] theorem State.clearFlags_chans : (s.clearFlags).chans = s.chans := rfl
@[simp] theorem State.clearFlags_monitors : (s.clearFlags).monitors = s.monitors := rfl
@[simp] theorem State.clearFlags_audio : (s.clearFlags).audio = s.audio := rfl
@[simp] theorem State.clearFlags_input : (s.clearFlags).input = s.input := rfl
@[simp] theorem State.clearFlags_noise : (s.clearFlags).noise = s.noise := rfl
@[simp] theorem State.clearFlags_leaks : (s.clearFlags).leaks = s.leaks := rfl
@[simp] theorem State.clearFlags_router : (s.clearFlags).router = s.router := rfl

/-! ### dropHeld -/

@[simp] theorem State.dropHeld_pending : (s.dropHeld).pending = s.pending := rfl
@[simp] theorem State.dropHeld_resetLow : (s.dropHeld).resetLow = s.resetLow := rfl
@[simp] theorem State.dropHeld_arbiter : (s.dropHeld).arbiter = s.arbiter := rfl
@[simp] theorem State.dropHeld_engine : (s.dropHeld).engine = s.engine := rfl
@[simp] theorem State.dropHeld_store : (s.dropHeld).store = s.store := rfl
@[simp] theorem State.dropHeld_chans : (s.dropHeld).chans = s.chans := rfl
@[simp] theorem State.dropHeld_monitors : (s.dropHeld).monitors = s.monitors := rfl
@[simp] theorem State.dropHeld_audio : (s.dropHeld).audio = s.audio := rfl
@[simp] theorem State.dropHeld_input : (s.dropHeld).input = s.input := rfl
@[simp] theorem State.dropHeld_noise : (s.dropHeld).noise = s.noise := rfl
@[simp] theorem State.dropHeld_leaks : (s.dropHeld).leaks = s.leaks := rfl
@[simp] theorem State.dropHeld_router : (s.dropHeld).router = s.router := rfl

/-! ### granting -/

@[simp] theorem State.granting_pending (p : PortId) : (s.granting p).pending = s.pending := rfl
@[simp] theorem State.granting_resetLow (p : PortId) : (s.granting p).resetLow = s.resetLow := rfl
@[simp] theorem State.granting_ports (p : PortId) : (s.granting p).ports = s.ports := rfl
@[simp] theorem State.granting_engine (p : PortId) : (s.granting p).engine = s.engine := rfl
@[simp] theorem State.granting_store (p : PortId) : (s.granting p).store = s.store := rfl
@[simp] theorem State.granting_chans (p : PortId) : (s.granting p).chans = s.chans := rfl
@[simp] theorem State.granting_monitors (p : PortId) : (s.granting p).monitors = s.monitors := rfl
@[simp] theorem State.granting_audio (p : PortId) : (s.granting p).audio = s.audio := rfl
@[simp] theorem State.granting_input (p : PortId) : (s.granting p).input = s.input := rfl
@[simp] theorem State.granting_noise (p : PortId) : (s.granting p).noise = s.noise := rfl
@[simp] theorem State.granting_leaks (p : PortId) : (s.granting p).leaks = s.leaks := rfl
@[simp] theorem State.granting_router (p : PortId) : (s.granting p).router = s.router := rfl

/-! ### popPosting -/

@[simp] theorem State.popPosting_pending : (s.popPosting).pending = s.pending := rfl
@[simp] theorem State.popPosting_resetLow : (s.popPosting).resetLow = s.resetLow := rfl
@[simp] theorem State.popPosting_ports : (s.popPosting).ports = s.ports := rfl
@[simp] theorem State.popPosting_engine : (s.popPosting).engine = s.engine := rfl
@[simp] theorem State.popPosting_store : (s.popPosting).store = s.store := rfl
@[simp] theorem State.popPosting_chans : (s.popPosting).chans = s.chans := rfl
@[simp] theorem State.popPosting_monitors : (s.popPosting).monitors = s.monitors := rfl
@[simp] theorem State.popPosting_audio : (s.popPosting).audio = s.audio := rfl
@[simp] theorem State.popPosting_input : (s.popPosting).input = s.input := rfl
@[simp] theorem State.popPosting_noise : (s.popPosting).noise = s.noise := rfl
@[simp] theorem State.popPosting_leaks : (s.popPosting).leaks = s.leaks := rfl
@[simp] theorem State.popPosting_router : (s.popPosting).router = s.router := rfl

/-! ### dropPosting -/

@[simp] theorem State.dropPosting_pending (c : ChannelId) : (s.dropPosting c).pending = s.pending := rfl
@[simp] theorem State.dropPosting_resetLow (c : ChannelId) : (s.dropPosting c).resetLow = s.resetLow := rfl
@[simp] theorem State.dropPosting_ports (c : ChannelId) : (s.dropPosting c).ports = s.ports := rfl
@[simp] theorem State.dropPosting_engine (c : ChannelId) : (s.dropPosting c).engine = s.engine := rfl
@[simp] theorem State.dropPosting_store (c : ChannelId) : (s.dropPosting c).store = s.store := rfl
@[simp] theorem State.dropPosting_chans (c : ChannelId) : (s.dropPosting c).chans = s.chans := rfl
@[simp] theorem State.dropPosting_monitors (c : ChannelId) : (s.dropPosting c).monitors = s.monitors := rfl
@[simp] theorem State.dropPosting_audio (c : ChannelId) : (s.dropPosting c).audio = s.audio := rfl
@[simp] theorem State.dropPosting_input (c : ChannelId) : (s.dropPosting c).input = s.input := rfl
@[simp] theorem State.dropPosting_noise (c : ChannelId) : (s.dropPosting c).noise = s.noise := rfl
@[simp] theorem State.dropPosting_leaks (c : ChannelId) : (s.dropPosting c).leaks = s.leaks := rfl
@[simp] theorem State.dropPosting_router (c : ChannelId) : (s.dropPosting c).router = s.router := rfl

/-! ### clearAnalyzer -/

@[simp] theorem State.clearAnalyzer_pending (c : ChannelId) : (s.clearAnalyzer c).pending = s.pending := by cases c <;> rfl
@[simp] theorem State.clearAnalyzer_resetLow (c : ChannelId) : (s.clearAnalyzer c).resetLow = s.resetLow := by cases c <;> rfl
@[simp] theorem State.clearAnalyzer_ports (c : ChannelId) : (s.clearAnalyzer c).ports = s.ports := by cases c <;> rfl
@[simp] theorem State.clearAnalyzer_arbiter (c : ChannelId) : (s.clearAnalyzer c).arbiter = s.arbiter := by cases c <;> rfl
@[simp] theorem State.clearAnalyzer_engine (c : ChannelId) : (s.clearAnalyzer c).engine = s.engine := by cases c <;> rfl
@[simp] theorem State.clearAnalyzer_store (c : ChannelId) : (s.clearAnalyzer c).store = s.store := by cases c <;> rfl
@[simp] theorem State.clearAnalyzer_chans (c : ChannelId) : (s.clearAnalyzer c).chans = s.chans := by cases c <;> rfl
@[simp] theorem State.clearAnalyzer_audio (c : ChannelId) : (s.clearAnalyzer c).audio = s.audio := by cases c <;> rfl
@[simp] theorem State.clearAnalyzer_router (c : ChannelId) : (s.clearAnalyzer c).router = s.router := by cases c <;> rfl

/-! ### restChannel -/

@[simp] theorem State.restChannel_pending (c : ChannelId) : (s.restChannel c).pending = s.pending := by cases c <;> rfl
@[simp] theorem State.restChannel_resetLow (c : ChannelId) : (s.restChannel c).resetLow = s.resetLow := by cases c <;> rfl
@[simp] theorem State.restChannel_ports (c : ChannelId) : (s.restChannel c).ports = s.ports := by cases c <;> rfl
@[simp] theorem State.restChannel_arbiter (c : ChannelId) : (s.restChannel c).arbiter = s.arbiter := by cases c <;> rfl
@[simp] theorem State.restChannel_engine (c : ChannelId) : (s.restChannel c).engine = s.engine := by cases c <;> rfl
@[simp] theorem State.restChannel_store (c : ChannelId) : (s.restChannel c).store = s.store := by cases c <;> rfl
@[simp] theorem State.restChannel_audio (c : ChannelId) : (s.restChannel c).audio = s.audio := by cases c <;> rfl
@[simp] theorem State.restChannel_router (c : ChannelId) : (s.restChannel c).router = s.router := by cases c <;> rfl

/-! ### post -/

@[simp] theorem State.post_pending (c : ChannelId) (b : Binding) (k : PostingKind) : (s.post c b k).pending = s.pending := by cases c <;> rfl
@[simp] theorem State.post_resetLow (c : ChannelId) (b : Binding) (k : PostingKind) : (s.post c b k).resetLow = s.resetLow := by cases c <;> rfl
@[simp] theorem State.post_ports (c : ChannelId) (b : Binding) (k : PostingKind) : (s.post c b k).ports = s.ports := by cases c <;> rfl
@[simp] theorem State.post_engine (c : ChannelId) (b : Binding) (k : PostingKind) : (s.post c b k).engine = s.engine := by cases c <;> rfl
@[simp] theorem State.post_store (c : ChannelId) (b : Binding) (k : PostingKind) : (s.post c b k).store = s.store := by cases c <;> rfl
@[simp] theorem State.post_audio (c : ChannelId) (b : Binding) (k : PostingKind) : (s.post c b k).audio = s.audio := by cases c <;> rfl
@[simp] theorem State.post_router (c : ChannelId) (b : Binding) (k : PostingKind) : (s.post c b k).router = s.router := by cases c <;> rfl

/-! ### Reading what was written -/

@[simp] theorem State.port_setPort (p q : PortId) (v : Port) :
    (s.setPort p v).port q = if p = q then v else s.port q := by
  by_cases h : p = q
  · subst h; simp [State.port, State.setPort]
  · simp [State.port, State.setPort, h, Fin.val_ne_of_ne]

@[simp] theorem State.slot_setSlot (i j : SlotId) (v : Slot) :
    (s.setSlot i v).slot j = if i = j then v else s.slot j := by
  by_cases h : i = j
  · subst h; simp [State.slot, State.setSlot]
  · simp [State.slot, State.setSlot, h, Fin.val_ne_of_ne]

/-- Other words standing in error are those of one slot, and its generation and file stay (R178). -/
@[simp] theorem State.slot_setErrors (i j : SlotId) (errs : RecordErrors) :
    (s.setErrors i errs).slot j = if i = j then { s.slot j with errors := errs } else s.slot j := by
  simp only [State.setErrors, State.slot_setSlot]
  by_cases h : i = j
  · subst h; simp
  · simp [h]

/-- Words gone wrong stand in error in their slots, whose generation and file stay (R178). -/
@[simp] theorem State.slot_disturb (ds : Disturbances) (i : SlotId) :
    (s.disturb ds).slot i = (s.slot i).disturb (errorsIn ds i) := by
  simp [State.disturb, State.slot, disturbSlots]

@[simp] theorem Slot.disturb_gen (v : Slot) (es : List WordError) : (v.disturb es).gen = v.gen := rfl
@[simp] theorem Slot.disturb_file (v : Slot) (es : List WordError) : (v.disturb es).file = v.file := rfl
@[simp] theorem Slot.disturb_nil (v : Slot) : v.disturb [] = v := rfl

/-- Words gone wrong leave the serial index, the line order list, the admission counter and the stray switch. -/
@[simp] theorem State.disturb_index (ds : Disturbances) : (s.disturb ds).engine.index = s.engine.index := rfl
@[simp] theorem State.disturb_lineOrder (ds : Disturbances) :
    (s.disturb ds).engine.lineOrder = s.engine.lineOrder := rfl
@[simp] theorem State.disturb_admissions (ds : Disturbances) :
    (s.disturb ds).engine.admissions = s.engine.admissions := rfl
@[simp] theorem State.disturb_strayEnabled (ds : Disturbances) :
    (s.disturb ds).engine.strayEnabled = s.engine.strayEnabled := rfl

/-- Words standing in error leave the serial index, the line order list, the admission counter and the stray switch. -/
@[simp] theorem State.setErrors_index (i : SlotId) (errs : RecordErrors) :
    (s.setErrors i errs).engine.index = s.engine.index := rfl
@[simp] theorem State.setErrors_lineOrder (i : SlotId) (errs : RecordErrors) :
    (s.setErrors i errs).engine.lineOrder = s.engine.lineOrder := rfl
@[simp] theorem State.setErrors_admissions (i : SlotId) (errs : RecordErrors) :
    (s.setErrors i errs).engine.admissions = s.engine.admissions := rfl
@[simp] theorem State.setErrors_strayEnabled (i : SlotId) (errs : RecordErrors) :
    (s.setErrors i errs).engine.strayEnabled = s.engine.strayEnabled := rfl

/-- Words gone wrong and words standing in error leave every file, handle, port and channel, what the serial index
finds, and what the arbiter grants. -/
@[simp] theorem State.file_disturb (ds : Disturbances) (i : SlotId) : (s.disturb ds).file i = s.file i := by
  simp [State.file]
@[simp] theorem State.handleOf_disturb (ds : Disturbances) (i : SlotId) :
    (s.disturb ds).handleOf i = s.handleOf i := by simp [State.handleOf]
@[simp] theorem State.fileAt_disturb (ds : Disturbances) (h : Handle) : (s.disturb ds).fileAt h = s.fileAt h := by
  simp [State.fileAt]
@[simp] theorem State.find_disturb (ds : Disturbances) (x : Serial) : (s.disturb ds).find x = s.find x := rfl
@[simp] theorem State.port_disturb (ds : Disturbances) (p : PortId) : (s.disturb ds).port p = s.port p := rfl
@[simp] theorem State.chan_disturb (ds : Disturbances) (c : ChannelId) : (s.disturb ds).chan c = s.chan c := rfl
@[simp] theorem State.bank_disturb (ds : Disturbances) (b : BankId) : (s.disturb ds).bank b = s.bank b := rfl
@[simp] theorem State.grant_disturb (ds : Disturbances) : (s.disturb ds).grant = s.grant := rfl
@[simp] theorem State.file_setErrors (i j : SlotId) (errs : RecordErrors) :
    (s.setErrors i errs).file j = s.file j := by
  simp only [State.file, State.slot_setErrors]; split <;> rfl
@[simp] theorem State.gen_setErrors (i j : SlotId) (errs : RecordErrors) :
    ((s.setErrors i errs).slot j).gen = (s.slot j).gen := by
  simp only [State.slot_setErrors]; split <;> rfl

/-- The grant's record of the last port and words gone wrong do not touch each other. -/
theorem State.disturb_granting (ds : Disturbances) (p : PortId) :
    (s.granting p).disturb ds = (s.disturb ds).granting p := rfl

/-- No word gone wrong changes nothing. -/
@[simp] theorem State.disturb_nil : s.disturb [] = s := by
  have h : disturbSlots s.engine.slots [] = s.engine.slots := by
    apply Vector.ext; intro i hi; simp [disturbSlots, errorsIn, Slot.disturb]
  unfold State.disturb; rw [h]

/-- A word gone wrong takes its place in the order the words are read, and no word is listed twice. -/
theorem pairwise_insertError (errs : RecordErrors) (e : WordError)
    (h : errs.Pairwise fun a b => a.word < b.word) : (insertError errs e).Pairwise fun a b => a.word < b.word := by
  unfold insertError
  rw [List.pairwise_append, List.pairwise_cons]
  refine ⟨h.filter _, ⟨fun b hb => ?_, h.filter _⟩, fun a ha b hb => ?_⟩
  · simpa using (List.mem_filter.1 hb).2
  · have ha' : a.word < e.word := by simpa using (List.mem_filter.1 ha).2
    rcases List.mem_cons.1 hb with hb | hb
    · rw [hb]; exact ha'
    · have hb' : e.word < b.word := by simpa using (List.mem_filter.1 hb).2
      exact Nat.lt_trans ha' hb'

/-- The words of a slot that stand in error stay in the order they are read when more go wrong. -/
theorem Slot.pairwise_disturb (v : Slot) (es : List WordError) (h : v.errors.Pairwise fun a b => a.word < b.word) :
    (v.disturb es).errors.Pairwise fun a b => a.word < b.word := by
  show (es.foldl insertError v.errors).Pairwise _
  induction es generalizing v with
  | nil => exact h
  | cons e es ih => exact ih { v with errors := insertError v.errors e } (pairwise_insertError _ e h)

@[simp] theorem State.bank_setBank (a b : BankId) (v : Bank) :
    (s.setBank a v).bank b = if a = b then v else s.bank b := by
  by_cases h : a = b
  · subst h; simp [State.bank, State.setBank]
  · simp [State.bank, State.setBank, h, Fin.val_ne_of_ne]

@[simp] theorem State.chan_setChan (c d : ChannelId) (v : Channel) :
    (s.setChan c v).chan d = if c = d then v else s.chan d := by
  cases c <;> cases d <;> rfl

@[simp] theorem State.monitor_setMonitor (c d : RunInCh) (m : Monitor) :
    (s.setMonitor c m).monitor d = if c = d then m else s.monitor d := by
  cases c <;> cases d <;> rfl

@[simp] theorem State.leak_setLeak (c d : LeakCh) (m : LeakAnalyzer) :
    (s.setLeak c m).leak d = if c = d then m else s.leak d := by
  cases c <;> cases d <;> rfl

/-- Writing a port's present contents changes nothing. -/
theorem State.setPort_port (p : PortId) : s.setPort p (s.port p) = s := by
  simp [State.setPort, State.port]

/-- A second write of a port stands. -/
theorem State.setPort_setPort (p : PortId) (v w : Port) : (s.setPort p v).setPort p w = s.setPort p w := by
  simp [State.setPort]

/-- Two states with the same fields are the same state. -/
theorem State.ext_fields {s t : State} (h1 : s.pending = t.pending) (h2 : s.resetLow = t.resetLow)
    (h3 : s.ports = t.ports) (h4 : s.arbiter = t.arbiter) (h5 : s.engine = t.engine) (h6 : s.store = t.store)
    (h7 : s.chans = t.chans) (h8 : s.monitors = t.monitors) (h9 : s.audio = t.audio) (h10 : s.input = t.input)
    (h11 : s.noise = t.noise) (h12 : s.leaks = t.leaks) (h13 : s.router = t.router) : s = t := by
  cases s; cases t; simp_all

end Sys2Proof.Machine
end

