-- ==== Sys2Proof/Laws/Ops.lean ====
section
/-! SUPPORT. What each shared operation can do: the parts it leaves as they were, and what it does to the part it is
for. The provers cite these instead of unfolding the operations. -/

namespace Sys2Proof.Machine

variable (s : State)

theorem State.reply_state (code : AnswerCode) : (s.reply code).state = s := rfl

/-! ### direct -/

@[simp] theorem State.direct_pending (c : ChannelId) (d : Directive) (pl : List Byte) : (s.direct c d pl).pending = s.pending := by
  unfold State.direct; split <;> rfl
@[simp] theorem State.direct_resetLow (c : ChannelId) (d : Directive) (pl : List Byte) : (s.direct c d pl).resetLow = s.resetLow := by
  unfold State.direct; split <;> rfl
@[simp] theorem State.direct_arbiter (c : ChannelId) (d : Directive) (pl : List Byte) : (s.direct c d pl).arbiter = s.arbiter := by
  unfold State.direct; split <;> rfl
@[simp] theorem State.direct_engine (c : ChannelId) (d : Directive) (pl : List Byte) : (s.direct c d pl).engine = s.engine := by
  unfold State.direct; split <;> rfl
@[simp] theorem State.direct_store (c : ChannelId) (d : Directive) (pl : List Byte) : (s.direct c d pl).store = s.store := by
  unfold State.direct; split <;> rfl
@[simp] theorem State.direct_chans (c : ChannelId) (d : Directive) (pl : List Byte) : (s.direct c d pl).chans = s.chans := by
  unfold State.direct; split <;> rfl
@[simp] theorem State.direct_monitors (c : ChannelId) (d : Directive) (pl : List Byte) : (s.direct c d pl).monitors = s.monitors := by
  unfold State.direct; split <;> rfl
@[simp] theorem State.direct_audio (c : ChannelId) (d : Directive) (pl : List Byte) : (s.direct c d pl).audio = s.audio := by
  unfold State.direct; split <;> rfl
@[simp] theorem State.direct_input (c : ChannelId) (d : Directive) (pl : List Byte) : (s.direct c d pl).input = s.input := by
  unfold State.direct; split <;> rfl
@[simp] theorem State.direct_noise (c : ChannelId) (d : Directive) (pl : List Byte) : (s.direct c d pl).noise = s.noise := by
  unfold State.direct; split <;> rfl
@[simp] theorem State.direct_leaks (c : ChannelId) (d : Directive) (pl : List Byte) : (s.direct c d pl).leaks = s.leaks := by
  unfold State.direct; split <;> rfl
@[simp] theorem State.direct_router (c : ChannelId) (d : Directive) (pl : List Byte) : (s.direct c d pl).router = s.router := by
  unfold State.direct; split <;> rfl

/-! ### directEnd -/

@[simp] theorem State.directEnd_pending (c : ChannelId) (b : Binding) (code : EndCode) (cause : Cause) : (s.directEnd c b code cause).pending = s.pending := by
  simp [State.directEnd]
@[simp] theorem State.directEnd_resetLow (c : ChannelId) (b : Binding) (code : EndCode) (cause : Cause) : (s.directEnd c b code cause).resetLow = s.resetLow := by
  simp [State.directEnd]
@[simp] theorem State.directEnd_arbiter (c : ChannelId) (b : Binding) (code : EndCode) (cause : Cause) : (s.directEnd c b code cause).arbiter = s.arbiter := by
  simp [State.directEnd]
@[simp] theorem State.directEnd_engine (c : ChannelId) (b : Binding) (code : EndCode) (cause : Cause) : (s.directEnd c b code cause).engine = s.engine := by
  simp [State.directEnd]
@[simp] theorem State.directEnd_store (c : ChannelId) (b : Binding) (code : EndCode) (cause : Cause) : (s.directEnd c b code cause).store = s.store := by
  simp [State.directEnd]
@[simp] theorem State.directEnd_chans (c : ChannelId) (b : Binding) (code : EndCode) (cause : Cause) : (s.directEnd c b code cause).chans = s.chans := by
  simp [State.directEnd]
@[simp] theorem State.directEnd_monitors (c : ChannelId) (b : Binding) (code : EndCode) (cause : Cause) : (s.directEnd c b code cause).monitors = s.monitors := by
  simp [State.directEnd]
@[simp] theorem State.directEnd_audio (c : ChannelId) (b : Binding) (code : EndCode) (cause : Cause) : (s.directEnd c b code cause).audio = s.audio := by
  simp [State.directEnd]
@[simp] theorem State.directEnd_input (c : ChannelId) (b : Binding) (code : EndCode) (cause : Cause) : (s.directEnd c b code cause).input = s.input := by
  simp [State.directEnd]
@[simp] theorem State.directEnd_noise (c : ChannelId) (b : Binding) (code : EndCode) (cause : Cause) : (s.directEnd c b code cause).noise = s.noise := by
  simp [State.directEnd]
@[simp] theorem State.directEnd_leaks (c : ChannelId) (b : Binding) (code : EndCode) (cause : Cause) : (s.directEnd c b code cause).leaks = s.leaks := by
  simp [State.directEnd]
@[simp] theorem State.directEnd_router (c : ChannelId) (b : Binding) (code : EndCode) (cause : Cause) : (s.directEnd c b code cause).router = s.router := by
  simp [State.directEnd]

/-! ### raise -/

@[simp] theorem State.raise_pending (k : NoticeKind) (name : List Byte) (d : Byte) : (s.raise k name d).pending = s.pending := by
  unfold State.raise; split <;> rfl
@[simp] theorem State.raise_resetLow (k : NoticeKind) (name : List Byte) (d : Byte) : (s.raise k name d).resetLow = s.resetLow := by
  unfold State.raise; split <;> rfl
@[simp] theorem State.raise_arbiter (k : NoticeKind) (name : List Byte) (d : Byte) : (s.raise k name d).arbiter = s.arbiter := by
  unfold State.raise; split <;> rfl
@[simp] theorem State.raise_engine (k : NoticeKind) (name : List Byte) (d : Byte) : (s.raise k name d).engine = s.engine := by
  unfold State.raise; split <;> rfl
@[simp] theorem State.raise_store (k : NoticeKind) (name : List Byte) (d : Byte) : (s.raise k name d).store = s.store := by
  unfold State.raise; split <;> rfl
@[simp] theorem State.raise_chans (k : NoticeKind) (name : List Byte) (d : Byte) : (s.raise k name d).chans = s.chans := by
  unfold State.raise; split <;> rfl
@[simp] theorem State.raise_monitors (k : NoticeKind) (name : List Byte) (d : Byte) : (s.raise k name d).monitors = s.monitors := by
  unfold State.raise; split <;> rfl
@[simp] theorem State.raise_audio (k : NoticeKind) (name : List Byte) (d : Byte) : (s.raise k name d).audio = s.audio := by
  unfold State.raise; split <;> rfl
@[simp] theorem State.raise_input (k : NoticeKind) (name : List Byte) (d : Byte) : (s.raise k name d).input = s.input := by
  unfold State.raise; split <;> rfl
@[simp] theorem State.raise_noise (k : NoticeKind) (name : List Byte) (d : Byte) : (s.raise k name d).noise = s.noise := by
  unfold State.raise; split <;> rfl
@[simp] theorem State.raise_leaks (k : NoticeKind) (name : List Byte) (d : Byte) : (s.raise k name d).leaks = s.leaks := by
  unfold State.raise; split <;> rfl
@[simp] theorem State.raise_router (k : NoticeKind) (name : List Byte) (d : Byte) : (s.raise k name d).router = s.router := by
  unfold State.raise; split <;> rfl

/-! ### modStage -/

@[simp] theorem State.modStage_pending (h : Handle) (t : Stage) (g : StageRecord → StageRecord) : (s.modStage h t g).pending = s.pending := by
  unfold State.modStage; split <;> rfl
@[simp] theorem State.modStage_resetLow (h : Handle) (t : Stage) (g : StageRecord → StageRecord) : (s.modStage h t g).resetLow = s.resetLow := by
  unfold State.modStage; split <;> rfl
@[simp] theorem State.modStage_ports (h : Handle) (t : Stage) (g : StageRecord → StageRecord) : (s.modStage h t g).ports = s.ports := by
  unfold State.modStage; split <;> rfl
@[simp] theorem State.modStage_arbiter (h : Handle) (t : Stage) (g : StageRecord → StageRecord) : (s.modStage h t g).arbiter = s.arbiter := by
  unfold State.modStage; split <;> rfl
@[simp] theorem State.modStage_store (h : Handle) (t : Stage) (g : StageRecord → StageRecord) : (s.modStage h t g).store = s.store := by
  unfold State.modStage; split <;> rfl
@[simp] theorem State.modStage_chans (h : Handle) (t : Stage) (g : StageRecord → StageRecord) : (s.modStage h t g).chans = s.chans := by
  unfold State.modStage; split <;> rfl
@[simp] theorem State.modStage_monitors (h : Handle) (t : Stage) (g : StageRecord → StageRecord) : (s.modStage h t g).monitors = s.monitors := by
  unfold State.modStage; split <;> rfl
@[simp] theorem State.modStage_audio (h : Handle) (t : Stage) (g : StageRecord → StageRecord) : (s.modStage h t g).audio = s.audio := by
  unfold State.modStage; split <;> rfl
@[simp] theorem State.modStage_input (h : Handle) (t : Stage) (g : StageRecord → StageRecord) : (s.modStage h t g).input = s.input := by
  unfold State.modStage; split <;> rfl
@[simp] theorem State.modStage_noise (h : Handle) (t : Stage) (g : StageRecord → StageRecord) : (s.modStage h t g).noise = s.noise := by
  unfold State.modStage; split <;> rfl
@[simp] theorem State.modStage_leaks (h : Handle) (t : Stage) (g : StageRecord → StageRecord) : (s.modStage h t g).leaks = s.leaks := by
  unfold State.modStage; split <;> rfl
@[simp] theorem State.modStage_router (h : Handle) (t : Stage) (g : StageRecord → StageRecord) : (s.modStage h t g).router = s.router := by
  unfold State.modStage; split <;> rfl

/-! ### recompute -/

@[simp] theorem State.recompute_pending (i : SlotId) : (s.recompute i).pending = s.pending := by
  unfold State.recompute; repeat' split
  all_goals simp
@[simp] theorem State.recompute_resetLow (i : SlotId) : (s.recompute i).resetLow = s.resetLow := by
  unfold State.recompute; repeat' split
  all_goals simp
@[simp] theorem State.recompute_arbiter (i : SlotId) : (s.recompute i).arbiter = s.arbiter := by
  unfold State.recompute; repeat' split
  all_goals simp
@[simp] theorem State.recompute_store (i : SlotId) : (s.recompute i).store = s.store := by
  unfold State.recompute; repeat' split
  all_goals simp
@[simp] theorem State.recompute_chans (i : SlotId) : (s.recompute i).chans = s.chans := by
  unfold State.recompute; repeat' split
  all_goals simp
@[simp] theorem State.recompute_monitors (i : SlotId) : (s.recompute i).monitors = s.monitors := by
  unfold State.recompute; repeat' split
  all_goals simp
@[simp] theorem State.recompute_audio (i : SlotId) : (s.recompute i).audio = s.audio := by
  unfold State.recompute; repeat' split
  all_goals simp
@[simp] theorem State.recompute_input (i : SlotId) : (s.recompute i).input = s.input := by
  unfold State.recompute; repeat' split
  all_goals simp
@[simp] theorem State.recompute_noise (i : SlotId) : (s.recompute i).noise = s.noise := by
  unfold State.recompute; repeat' split
  all_goals simp
@[simp] theorem State.recompute_leaks (i : SlotId) : (s.recompute i).leaks = s.leaks := by
  unfold State.recompute; repeat' split
  all_goals simp
@[simp] theorem State.recompute_router (i : SlotId) : (s.recompute i).router = s.router := by
  unfold State.recompute; repeat' split
  all_goals simp

/-! ### endStage -/

@[simp] theorem State.endStage_pending (c : ChannelId) (e : StageEnd) : (s.endStage c e).pending = s.pending := by
  unfold State.endStage; split <;> simp
@[simp] theorem State.endStage_resetLow (c : ChannelId) (e : StageEnd) : (s.endStage c e).resetLow = s.resetLow := by
  unfold State.endStage; split <;> simp
@[simp] theorem State.endStage_engine (c : ChannelId) (e : StageEnd) : (s.endStage c e).engine = s.engine := by
  unfold State.endStage; split <;> simp
@[simp] theorem State.endStage_store (c : ChannelId) (e : StageEnd) : (s.endStage c e).store = s.store := by
  unfold State.endStage; split <;> simp
@[simp] theorem State.endStage_audio (c : ChannelId) (e : StageEnd) : (s.endStage c e).audio = s.audio := by
  unfold State.endStage; split <;> simp
@[simp] theorem State.endStage_router (c : ChannelId) (e : StageEnd) : (s.endStage c e).router = s.router := by
  unfold State.endStage; split <;> simp

/-! ### engineEnd -/

@[simp] theorem State.engineEnd_pending (c : ChannelId) (cause : Cause) : (s.engineEnd c cause).pending = s.pending := by
  unfold State.engineEnd; split <;> simp
@[simp] theorem State.engineEnd_resetLow (c : ChannelId) (cause : Cause) : (s.engineEnd c cause).resetLow = s.resetLow := by
  unfold State.engineEnd; split <;> simp
@[simp] theorem State.engineEnd_store (c : ChannelId) (cause : Cause) : (s.engineEnd c cause).store = s.store := by
  unfold State.engineEnd; split <;> simp
@[simp] theorem State.engineEnd_audio (c : ChannelId) (cause : Cause) : (s.engineEnd c cause).audio = s.audio := by
  unfold State.engineEnd; split <;> simp
@[simp] theorem State.engineEnd_router (c : ChannelId) (cause : Cause) : (s.engineEnd c cause).router = s.router := by
  unfold State.engineEnd; split <;> simp

/-! ### captureError -/

@[simp] theorem State.captureError_pending (i : SlotId) (item : CaptureItem) (errs : RecordErrors) : (s.captureError i item errs).pending = s.pending := by
  unfold State.captureError; dsimp only; split <;> simp
@[simp] theorem State.captureError_resetLow (i : SlotId) (item : CaptureItem) (errs : RecordErrors) : (s.captureError i item errs).resetLow = s.resetLow := by
  unfold State.captureError; dsimp only; split <;> simp
@[simp] theorem State.captureError_arbiter (i : SlotId) (item : CaptureItem) (errs : RecordErrors) : (s.captureError i item errs).arbiter = s.arbiter := by
  unfold State.captureError; dsimp only; split <;> simp
@[simp] theorem State.captureError_engine (i : SlotId) (item : CaptureItem) (errs : RecordErrors) : (s.captureError i item errs).engine = s.engine := by
  unfold State.captureError; dsimp only; split <;> simp
@[simp] theorem State.captureError_store (i : SlotId) (item : CaptureItem) (errs : RecordErrors) : (s.captureError i item errs).store = s.store := by
  unfold State.captureError; dsimp only; split <;> simp
@[simp] theorem State.captureError_chans (i : SlotId) (item : CaptureItem) (errs : RecordErrors) : (s.captureError i item errs).chans = s.chans := by
  unfold State.captureError; dsimp only; split <;> simp
@[simp] theorem State.captureError_monitors (i : SlotId) (item : CaptureItem) (errs : RecordErrors) : (s.captureError i item errs).monitors = s.monitors := by
  unfold State.captureError; dsimp only; split <;> simp
@[simp] theorem State.captureError_audio (i : SlotId) (item : CaptureItem) (errs : RecordErrors) : (s.captureError i item errs).audio = s.audio := by
  unfold State.captureError; dsimp only; split <;> simp
@[simp] theorem State.captureError_input (i : SlotId) (item : CaptureItem) (errs : RecordErrors) : (s.captureError i item errs).input = s.input := by
  unfold State.captureError; dsimp only; split <;> simp
@[simp] theorem State.captureError_noise (i : SlotId) (item : CaptureItem) (errs : RecordErrors) : (s.captureError i item errs).noise = s.noise := by
  unfold State.captureError; dsimp only; split <;> simp
@[simp] theorem State.captureError_leaks (i : SlotId) (item : CaptureItem) (errs : RecordErrors) : (s.captureError i item errs).leaks = s.leaks := by
  unfold State.captureError; dsimp only; split <;> simp

/-! ### damage -/

@[simp] theorem State.damage_pending (i : SlotId) (f : FileRec) : (s.damage i f).pending = s.pending := by
  unfold State.damage; dsimp only; split <;> simp
@[simp] theorem State.damage_resetLow (i : SlotId) (f : FileRec) : (s.damage i f).resetLow = s.resetLow := by
  unfold State.damage; dsimp only; split <;> simp
@[simp] theorem State.damage_store (i : SlotId) (f : FileRec) : (s.damage i f).store = s.store := by
  unfold State.damage; dsimp only; split <;> simp
@[simp] theorem State.damage_audio (i : SlotId) (f : FileRec) : (s.damage i f).audio = s.audio := by
  unfold State.damage; dsimp only; split <;> simp
@[simp] theorem State.damage_router (i : SlotId) (f : FileRec) : (s.damage i f).router = s.router := by
  unfold State.damage; dsimp only; split <;> simp

/-! ### readFile -/

@[simp] theorem State.readFile_pending (item : CaptureItem) (i : SlotId) : (s.readFile item i).pending = s.pending := by
  unfold State.readFile; dsimp only; repeat' split
  all_goals simp
@[simp] theorem State.readFile_resetLow (item : CaptureItem) (i : SlotId) : (s.readFile item i).resetLow = s.resetLow := by
  unfold State.readFile; dsimp only; repeat' split
  all_goals simp
@[simp] theorem State.readFile_store (item : CaptureItem) (i : SlotId) : (s.readFile item i).store = s.store := by
  unfold State.readFile; dsimp only; repeat' split
  all_goals simp
@[simp] theorem State.readFile_audio (item : CaptureItem) (i : SlotId) : (s.readFile item i).audio = s.audio := by
  unfold State.readFile; dsimp only; repeat' split
  all_goals simp

/-! ### noticeLapse -/

@[simp] theorem State.noticeLapse_pending (i : SlotId) (t : Stage) : (s.noticeLapse i t).pending = s.pending := by
  unfold State.noticeLapse; split <;> simp
@[simp] theorem State.noticeLapse_resetLow (i : SlotId) (t : Stage) : (s.noticeLapse i t).resetLow = s.resetLow := by
  unfold State.noticeLapse; split <;> simp
@[simp] theorem State.noticeLapse_arbiter (i : SlotId) (t : Stage) : (s.noticeLapse i t).arbiter = s.arbiter := by
  unfold State.noticeLapse; split <;> simp
@[simp] theorem State.noticeLapse_engine (i : SlotId) (t : Stage) : (s.noticeLapse i t).engine = s.engine := by
  unfold State.noticeLapse; split <;> simp
@[simp] theorem State.noticeLapse_store (i : SlotId) (t : Stage) : (s.noticeLapse i t).store = s.store := by
  unfold State.noticeLapse; split <;> simp
@[simp] theorem State.noticeLapse_chans (i : SlotId) (t : Stage) : (s.noticeLapse i t).chans = s.chans := by
  unfold State.noticeLapse; split <;> simp
@[simp] theorem State.noticeLapse_monitors (i : SlotId) (t : Stage) : (s.noticeLapse i t).monitors = s.monitors := by
  unfold State.noticeLapse; split <;> simp
@[simp] theorem State.noticeLapse_audio (i : SlotId) (t : Stage) : (s.noticeLapse i t).audio = s.audio := by
  unfold State.noticeLapse; split <;> simp
@[simp] theorem State.noticeLapse_input (i : SlotId) (t : Stage) : (s.noticeLapse i t).input = s.input := by
  unfold State.noticeLapse; split <;> simp
@[simp] theorem State.noticeLapse_noise (i : SlotId) (t : Stage) : (s.noticeLapse i t).noise = s.noise := by
  unfold State.noticeLapse; split <;> simp
@[simp] theorem State.noticeLapse_leaks (i : SlotId) (t : Stage) : (s.noticeLapse i t).leaks = s.leaks := by
  unfold State.noticeLapse; split <;> simp
@[simp] theorem State.noticeLapse_router (i : SlotId) (t : Stage) : (s.noticeLapse i t).router = s.router := by
  unfold State.noticeLapse; split <;> simp

/-! ### discardPosting -/

@[simp] theorem State.discardPosting_pending (p : Posting) : (s.discardPosting p).pending = s.pending := by
  unfold State.discardPosting; split <;> simp
@[simp] theorem State.discardPosting_resetLow (p : Posting) : (s.discardPosting p).resetLow = s.resetLow := by
  unfold State.discardPosting; split <;> simp
@[simp] theorem State.discardPosting_ports (p : Posting) : (s.discardPosting p).ports = s.ports := by
  unfold State.discardPosting; split <;> simp
@[simp] theorem State.discardPosting_arbiter (p : Posting) : (s.discardPosting p).arbiter = s.arbiter := by
  unfold State.discardPosting; split <;> simp
@[simp] theorem State.discardPosting_engine (p : Posting) : (s.discardPosting p).engine = s.engine := by
  unfold State.discardPosting; split <;> simp
@[simp] theorem State.discardPosting_store (p : Posting) : (s.discardPosting p).store = s.store := by
  unfold State.discardPosting; split <;> simp
@[simp] theorem State.discardPosting_audio (p : Posting) : (s.discardPosting p).audio = s.audio := by
  unfold State.discardPosting; split <;> simp
@[simp] theorem State.discardPosting_router (p : Posting) : (s.discardPosting p).router = s.router := by
  unfold State.discardPosting; split <;> simp

/-! ### Ports: hand, raise -/

/-- Handing an answer or a directive to a port leaves its unsent notices as they were. -/
theorem Port.unsentNotices_hand (q : Port) (f : Frame) (h : f.kind ≠ .notice) :
    (q.hand f).unsentNotices = q.unsentNotices := by
  simp [Port.unsentNotices, Port.hand, List.filter_append, h]

/-- A notice handed to a port leaves at most 8 unsent there, where at most 8 were (R160). -/
theorem Port.unsentNotices_handNotice (q : Port) (f : Frame) (h : q.unsentNotices ≤ Config.noticeLimit) :
    (q.handNotice f).unsentNotices ≤ Config.noticeLimit := by
  unfold Port.handNotice
  split
  · rename_i hlt
    have : (q.hand f).unsentNotices ≤ q.unsentNotices + 1 := by
      simp only [Port.unsentNotices, Port.hand, List.filter_append, List.length_append]
      have : ([f].filter fun f => f.kind == FrameKind.notice).length ≤ 1 := by
        simpa using List.length_filter_le (fun f : Frame => f.kind == FrameKind.notice) [f]
      omega
    omega
  · simpa [Port.unsentNotices] using h

/-- What a raised notice does at each port (R184). -/
theorem State.port_raise (k : NoticeKind) (name : List Byte) (d : Byte) (p : PortId) :
    (s.raise k name d).port p =
      if (s.router.route k).enable ∧ (s.router.route k).ports.getLsbD p.val then
        (s.port p).handNotice (noticeFrame k name d)
      else s.port p := by
  unfold State.raise State.port
  by_cases h : (s.router.route k).enable <;> simp [h]

/-- Handing a notice keeps everything of a port but its transmit side and overrun flag. -/
@[simp] theorem Port.handNotice_role (q : Port) (f : Frame) : (q.handNotice f).role = q.role := by
  unfold Port.handNotice Port.hand; split <;> rfl
@[simp] theorem Port.handNotice_rx (q : Port) (f : Frame) : (q.handNotice f).rx = q.rx := by
  unfold Port.handNotice Port.hand; split <;> rfl
@[simp] theorem Port.handNotice_held (q : Port) (f : Frame) : (q.handNotice f).held = q.held := by
  unfold Port.handNotice Port.hand; split <;> rfl
@[simp] theorem Port.handNotice_garbled (q : Port) (f : Frame) : (q.handNotice f).garbled = q.garbled := by
  unfold Port.handNotice Port.hand; split <;> rfl

/-! ### Files: setFile, modStage, recompute -/

/-- The file of a slot that was written, and of the others. -/
@[simp] theorem State.file_setFile (i j : SlotId) (f : FileRec) :
    (s.setFile i f).file j = if i = j then some f else s.file j := by
  unfold State.file State.setFile
  simp only [State.slot_setSlot]
  split <;> rfl

/-- Writing a file keeps every generation. -/
@[simp] theorem State.gen_setFile (i j : SlotId) (f : FileRec) : ((s.setFile i f).slot j).gen = (s.slot j).gen := by
  unfold State.setFile
  simp only [State.slot_setSlot]
  split
  · rename_i h; subst h; rfl
  · rfl

/-- Raising a notice keeps every file. -/
@[simp] theorem State.file_raise (k : NoticeKind) (name : List Byte) (d : Byte) (i : SlotId) :
    (s.raise k name d).file i = s.file i := by
  simp [State.file, State.slot]

/-- A recomputation stores the verdict of the file as it stands, and touches no other field of any file (R6, R146). -/
theorem State.file_recompute (i j : SlotId) :
    (s.recompute i).file j =
      if i = j then (s.file j).map fun f => { f with verdict := f.verdictNow } else s.file j := by
  unfold State.recompute
  by_cases hij : i = j
  · subst hij
    cases hf : s.file i with
    | none => simp [hf]
    | some f =>
      by_cases hv : f.verdictNow = f.verdict
      · simp only [hf, hv, if_true, Option.map_some]
      · simp [hv]
  · cases hf : s.file i with
    | none => simp [hij]
    | some f =>
      by_cases hv : f.verdictNow = f.verdict
      · simp [hv, hij]
      · simp [hv, hij]

/-! ### The arbiter and a granted request (R163, R167) -/

/-- A granted request is the one its port holds, and no posting waits. -/
theorem State.grant_request {p : PortId} {h : Held} (hg : s.grant = some (.request p h)) :
    s.arbiter.postings = [] ∧ (s.port p).held = some h := by
  unfold State.grant at hg
  cases hp : s.arbiter.postings with
  | cons q qs => rw [hp] at hg; simp at hg
  | nil =>
    rw [hp] at hg
    simp only [Option.bind_eq_some_iff, Option.map_eq_some_iff] at hg
    obtain ⟨q, _, r, hr, he⟩ := hg
    cases he
    exact ⟨rfl, hr⟩

/-- A granted posting is the oldest one. -/
theorem State.grant_posting {q : Posting} (hg : s.grant = some (.posting q)) :
    ∃ rest, s.arbiter.postings = q :: rest := by
  unfold State.grant at hg
  cases hp : s.arbiter.postings with
  | cons r rs => rw [hp] at hg; simp at hg; subst hg; exact ⟨rs, rfl⟩
  | nil =>
    rw [hp] at hg
    simp only [Option.bind_eq_some_iff, Option.map_eq_some_iff] at hg
    obtain ⟨_, _, _, _, he⟩ := hg
    cases he

/-- A granted request of the row's name is executed whole, and its answer ends the hold (R163). -/
theorem State.serve_of_grants {r : Request} {item : PortId → List Byte → State → Reply} {p : PortId} {h : Held}
    (hg : s.grants r p h) :
    s.serve r item =
      (item p h.payload (s.granting p)).state.answer p h.tag (item p h.payload (s.granting p)).code
        (item p h.payload (s.granting p)).data := by
  obtain ⟨hl, hgr, hr⟩ := hg
  simp [State.serve, State.unlessReset, hl, hgr, hr]

/-- A granted request of a row that reads the record memory is executed on the words as they went wrong (R178). -/
theorem State.serveReading_of_grants {r : Request} {ds : Disturbances} {item : PortId → List Byte → State → Reply}
    {p : PortId} {h : Held} (hg : s.grants r p h) :
    s.serveReading r ds item =
      (item p h.payload ((s.disturb ds).granting p)).state.answer p h.tag
        (item p h.payload ((s.disturb ds).granting p)).code (item p h.payload ((s.disturb ds).granting p)).data :=
  State.serve_of_grants s hg

/-- Serving a request keeps the queue of commands where the item keeps it. -/
theorem State.serve_pending {r : Request} {item : PortId → List Byte → State → Reply}
    (h : ∀ p pl s, (item p pl s).state.pending = s.pending) : (s.serve r item).pending = s.pending := by
  simp only [State.serve, State.unlessReset]
  split
  · rfl
  · split
    · split
      · simp [h]
      · rfl
    · rfl

end Sys2Proof.Machine
end

