-- ==== Sys2Proof/Laws/Engine.lean ====
section
/-! SUPPORT. What the record engine's operations keep: the slots, generations, indexes, channels, postings
and ports that a recomputation, an engine-side end and the read of a file leave as they were. -/

namespace Sys2Proof.Machine

/-- A granted request of the row's name ends as its item does, answered with that item's code and data (R163). -/
theorem State.serve_answers {s : State} {r : Request} {item : PortId → List Byte → State → Reply}
    {p : PortId} {h : Held} (hg : s.grants r p h) {t : State} {code : AnswerCode} {data : List Byte}
    (hi : item p h.payload (s.granting p) = ⟨t, code, data⟩) :
    (Host.Outcome.next (s.serve r item) : Outcome) = .next (t.answer p h.tag code data) := by
  rw [State.serve_of_grants s hg, hi]

/-- Equal ports at every number are equal ports. -/
theorem State.ports_ext {s t : State} (h : ∀ p, s.port p = t.port p) : s.ports = t.ports := by
  apply Vector.ext; intro i hi; exact h ⟨i, hi⟩

@[simp] theorem State.find_granting (s : State) (p : PortId) (x : Serial) : (s.granting p).find x = s.find x := rfl

@[simp] theorem State.file_granting (s : State) (p : PortId) (x : SlotId) : (s.granting p).file x = s.file x := rfl

@[simp] theorem State.fileAt_granting (s : State) (p : PortId) (x : Handle) :
    (s.granting p).fileAt x = s.fileAt x := rfl

@[simp] theorem State.slot_granting (s : State) (p : PortId) (x : SlotId) : (s.granting p).slot x = s.slot x := rfl

@[simp] theorem State.port_granting (s : State) (p x : PortId) : (s.granting p).port x = s.port x := rfl

@[simp] theorem State.bank_granting (s : State) (p : PortId) (x : BankId) : (s.granting p).bank x = s.bank x := rfl

@[simp] theorem State.chan_granting (s : State) (p : PortId) (x : ChannelId) : (s.granting p).chan x = s.chan x := rfl

@[simp] theorem State.handleOf_granting (s : State) (p : PortId) (x : SlotId) :
    (s.granting p).handleOf x = s.handleOf x := rfl

@[simp] theorem State.slot_raise (s : State) (k n d i) : (s.raise k n d).slot i = s.slot i := by simp [State.slot]

@[simp] theorem State.gen_recompute (s : State) (i j) : ((s.recompute i).slot j).gen = (s.slot j).gen := by
  unfold State.recompute; repeat' split
  all_goals simp

@[simp] theorem State.gen_modStage (s : State) (h t g j) : ((s.modStage h t g).slot j).gen = (s.slot j).gen := by
  unfold State.modStage; repeat' split
  all_goals simp

@[simp] theorem State.slot_restChannel (s : State) (c i) : (s.restChannel c).slot i = s.slot i := by
  simp [State.slot, State.restChannel_engine]

@[simp] theorem State.slot_directEnd (s : State) (c b x y i) : (s.directEnd c b x y).slot i = s.slot i := by
  simp [State.slot]

@[simp] theorem State.slot_dropPosting (s : State) (c i) : (s.dropPosting c).slot i = s.slot i := rfl

@[simp] theorem State.gen_engineEnd (s : State) (c x j) : ((s.engineEnd c x).slot j).gen = (s.slot j).gen := by
  unfold State.engineEnd; split <;> simp

@[simp] theorem State.slot_captureError (s : State) (i it e j) : (s.captureError i it e).slot j = s.slot j := by
  simp [State.slot]

@[simp] theorem State.gen_damage (s : State) (i f j) : ((s.damage i f).slot j).gen = (s.slot j).gen := by
  unfold State.damage; dsimp only; split <;> simp [-State.slot_setErrors]

@[simp] theorem State.gen_readFile (s : State) (it i j) : ((s.readFile it i).slot j).gen = (s.slot j).gen := by
  unfold State.readFile; dsimp only; repeat' split
  all_goals simp [-State.slot_setErrors]

@[simp] theorem State.handleOf_readFile (s : State) (it i j) :
    (s.readFile it i).handleOf j = s.handleOf j := by simp [State.handleOf]

/-- A recomputation leaves the serial index, the line order list and the admission counter (R6). -/
theorem State.recompute_index (s : State) (i) : (s.recompute i).engine.index = s.engine.index ∧
    (s.recompute i).engine.lineOrder = s.engine.lineOrder ∧
    (s.recompute i).engine.admissions = s.engine.admissions ∧
    (s.recompute i).engine.strayEnabled = s.engine.strayEnabled := by
  unfold State.recompute; repeat' split
  all_goals simp [State.setFile, State.setSlot]

/-- Writing a stage record leaves the serial index, the line order list and the admission counter. -/
theorem State.modStage_index (s : State) (h t g) : (s.modStage h t g).engine.index = s.engine.index ∧
    (s.modStage h t g).engine.lineOrder = s.engine.lineOrder ∧
    (s.modStage h t g).engine.admissions = s.engine.admissions ∧
    (s.modStage h t g).engine.strayEnabled = s.engine.strayEnabled := by
  unfold State.modStage; repeat' split
  all_goals simp [State.setFile, State.setSlot]

/-- An engine-side end leaves the serial index, the line order list and the admission counter (R62). -/
theorem State.engineEnd_index (s : State) (c x) : (s.engineEnd c x).engine.index = s.engine.index ∧
    (s.engineEnd c x).engine.lineOrder = s.engine.lineOrder ∧
    (s.engineEnd c x).engine.admissions = s.engine.admissions ∧
    (s.engineEnd c x).engine.strayEnabled = s.engine.strayEnabled := by
  unfold State.engineEnd; split
  · simp [State.recompute_index, State.restChannel_engine, State.modStage_index, State.dropPosting]
  · simp

/-- The read of a file leaves the serial index, the line order list and the admission counter (R14). -/
theorem State.readFile_index (s : State) (it i) : (s.readFile it i).engine.index = s.engine.index ∧
    (s.readFile it i).engine.lineOrder = s.engine.lineOrder ∧
    (s.readFile it i).engine.admissions = s.engine.admissions ∧
    (s.readFile it i).engine.strayEnabled = s.engine.strayEnabled := by
  unfold State.readFile State.damage; dsimp only; repeat' split
  all_goals simp [State.recompute_index, State.engineEnd_index, State.setFile, State.setSlot]

/-- A handle names a file exactly while its generation is the slot's and the slot is live (R2). -/
theorem State.fileAt_eq {s : State} {h : Handle} {f} : s.fileAt h = some f ↔ (s.slot h.slot).gen = h.gen ∧
    s.file h.slot = some f := by
  unfold State.fileAt; split <;> simp_all

/-- Freeing a channel rests that one and leaves the others (R60). -/
theorem State.chan_restChannel (s : State) (c d) : (s.restChannel c).chan d = if c = d then .rest else s.chan d := by
  have : ((s.setChan c .rest).clearAnalyzer c).chan d = (s.setChan c .rest).chan d := by cases c <;> rfl
  unfold State.restChannel; rw [this]; simp

/-- A channel is read from the five channels. -/
theorem State.chan_congr {s t : State} (h : s.chans = t.chans) (d) : s.chan d = t.chan d := by simp [State.chan, h]

/-- A freed channel's analyzer is cleared (R87, R102, R125, R144). -/
theorem State.rest_restChannel (s : State) (c) : (s.restChannel c).analyzerAtRest c := by
  cases c <;> rfl

/-- Whether an analyzer is cleared depends on the analyzers alone. -/
theorem State.atRest_congr {s t : State} (hm : s.monitors = t.monitors) (hi : s.input = t.input)
    (hn : s.noise = t.noise) (hl : s.leaks = t.leaks) (c) : t.analyzerAtRest c → s.analyzerAtRest c := by
  rcases s with ⟨a1,a2,a3,a4,a5,a6,a7,a8,a9,a10,a11,a12,a13⟩
  rcases t with ⟨b1,b2,b3,b4,b5,b6,b7,b8,b9,b10,b11,b12,b13⟩
  simp only at hm hi hn hl
  subst hm hi hn hl
  cases c <;> simp [State.analyzerAtRest, State.clearAnalyzer, State.setMonitor, State.setLeak]

/-- A notice only adds at the tail of a transmit side (R160, R184). -/
theorem State.tx_raise (s : State) (k n d p) : (s.port p).tx <+: ((s.raise k n d).port p).tx := by
  rw [State.port_raise]; split
  · unfold Port.handNotice; split
    · exact ⟨_, rfl⟩
    · exact List.prefix_rfl
  · exact List.prefix_rfl

/-- A recomputation only adds at the tail of a transmit side (R146, R160). -/
theorem State.tx_recompute (s : State) (i p) : (s.port p).tx <+: ((s.recompute i).port p).tx := by
  unfold State.recompute; repeat' split
  · exact List.prefix_rfl
  · exact State.tx_raise (s.setFile _ _) _ _ _ _
  · exact List.prefix_rfl

/-- The port of a channel's role depends on the ports alone (R46). -/
theorem State.portOf_congr {s t : State} (h : s.ports = t.ports) (c) : s.portOf c = t.portOf c := by
  simp [State.portOf, State.port, h]

/-- A recomputation writes its own slot only (R6). -/
theorem State.slot_recompute (s : State) (i j) (h : j ≠ i) : (s.recompute i).slot j = s.slot j := by
  unfold State.recompute; repeat' split
  all_goals simp [State.setFile, Ne.symm h]

/-- Writing a stage record writes its own slot only. -/
theorem State.slot_modStage (s : State) (hd t g j) (h : j ≠ hd.slot) : (s.modStage hd t g).slot j = s.slot j := by
  unfold State.modStage; repeat' split
  all_goals simp [State.setFile, Ne.symm h]

/-- A port is read from the ports. -/
theorem State.port_congr {s t : State} (h : s.ports = t.ports) (p) : s.port p = t.port p := by simp [State.port, h]

/-- An engine-side end rests its channel and leaves the others (R62). -/
theorem State.chan_engineEnd (s : State) (c x d) :
    (s.engineEnd c x).chan d = if c = d then (if (s.chan c).binding.isSome then .rest else s.chan c) else s.chan d := by
  unfold State.engineEnd; split
  · rename_i b hb
    rw [State.chan_congr (State.recompute_chans _ _), State.chan_congr (State.directEnd_chans _ _ _ _ _),
        State.chan_restChannel, State.chan_congr (State.modStage_chans _ _ _ _)]
    simp only [hb, Option.isSome_some, if_true]
    rfl
  · rename_i hb; rw [hb]; split <;> simp_all

/-- An engine-side end deletes its channel's posting and keeps the others in order (R62, R169). -/
theorem State.postings_engineEnd (s : State) (c x b) (hb : (s.chan c).binding = some b) :
    (s.engineEnd c x).arbiter.postings = s.arbiter.postings.filter fun p => p.channel != c := by
  unfold State.engineEnd; rw [hb]; simp; cases c <;> simp [State.dropPosting]

/-- A channel found bound to a handle has that binding (R47). -/
theorem State.boundTo_some {s : State} {h c} (hb : s.boundTo h = some c) : ∃ b, (s.chan c).binding = some b ∧
    b.handle = h := by
  have := List.find?_some hb
  simpa using this

/-- An engine-side end writes its own slot only (R62). -/
theorem State.slot_engineEnd (s : State) (c x b) (hb : (s.chan c).binding = some b) (j)
    (hj : j ≠ b.handle.slot) : (s.engineEnd c x).slot j = s.slot j := by
  unfold State.engineEnd; rw [hb]; simp only; rw [State.slot_recompute _ _ _ hj]
  simp [State.slot_modStage _ _ _ _ _ hj]

/-- Which channel is bound to a handle depends on the channels alone. -/
theorem State.boundTo_congr {s t : State} (h : s.chans = t.chans) (x) : s.boundTo x = t.boundTo x := by
  simp [State.boundTo, State.chan, h]

/-- Writing a file keeps every handle (R2). -/
theorem State.handleOf_setFile (s : State) (i f j) : (s.setFile i f).handleOf j = s.handleOf j := by
  simp [State.handleOf]

/-- An error fills the capture record where it is unlocked (R181). -/
theorem State.router_captureError (s : State) (i item errs) :
    (s.captureError i item errs).router =
    { s.router with capture := some (s.router.capture.getD ⟨errorKind errs, i, errorSyndrome errs, item⟩) } := by
  unfold State.captureError; dsimp only; split <;> simp

/-- The read of a live file does nothing to a sound record and to a damaged file's, writes a record that can be
corrected back and fills the capture record, or damages the file (R178 to R181). -/
theorem State.readFile_cases (s : State) (item : CaptureItem) (i : SlotId) {f : FileRec} (hf : s.file i = some f) :
    let errs := (s.slot i).errors
    (f.records = none ∨ errs = [] → s.readFile item i = s) ∧
    (f.records.isSome = true → errs ≠ [] → (∀ e ∈ errs, e.multiple = false) →
      s.readFile item i = (s.captureError i item errs).setErrors i (writtenBack errs)) ∧
    (f.records.isSome = true → (∃ e ∈ errs, e.multiple = true) →
      s.readFile item i = (s.captureError i item errs).damage i f) := by
  refine ⟨fun h => ?_, fun hr he hm => ?_, fun hr he => ?_⟩
  · unfold State.readFile FileRec.damaged; rw [hf]
    rcases h with h | h <;> simp [h]
  · have hk : errorKind (s.slot i).errors = .correctable := by simp [errorKind]; exact hm
    unfold State.readFile FileRec.damaged; rw [hf]
    cases h : f.records with
    | none => simp [h] at hr
    | some rs => simp [he, hk, h]
  · have hk : errorKind (s.slot i).errors = .uncorrectable := by
      simp only [errorKind, List.any_eq_true]; rw [if_pos he]
    have hn : (s.slot i).errors ≠ [] := by rintro h; rw [h] at he; simp at he
    unfold State.readFile FileRec.damaged; rw [hf]
    cases h : f.records with
    | none => simp [h] at hr
    | some rs => simp [hn, hk, h]

/-- A recomputed file stores the verdict of its fields (R6, R145). -/
theorem State.file_recompute_self (s : State) (i) (f) (h : s.file i = some f) :
    (s.recompute i).file i = some { f with verdict := f.verdictNow } := by
  rw [State.file_recompute]; simp [h]

end Sys2Proof.Machine
end

