-- ==== Sys2Proof/Laws/Links.lean ====
section
/-! SUPPORT. How bytes on a line become a frame: the assembly byte by byte, and the check of a complete frame. -/

namespace Sys2Proof.Machine

/-- Writing back a port changes nothing. -/
theorem State.setPort_self (s : State) (p) : s.setPort p (s.port p) = s := by
  simp [State.setPort, State.port]

/-- Bytes that leave an assembly short of complete are appended to it (R159). -/
theorem State.receiveLine_quiet (s : State) (p : PortId) (bytes : List Byte) (acc : List Byte) (rest : List LineByte)
    (hq : ∀ k < bytes.length, assembled (acc ++ bytes.take (k + 1)) = (some (acc ++ bytes.take (k + 1)), .quiet)) :
    (s.setPort p { s.port p with rx := some acc }).receiveLine p ((bytes.map fun b => ⟨b, true⟩) ++ rest) =
    (s.setPort p { s.port p with rx := some (acc ++ bytes) }).receiveLine p rest := by
  induction bytes generalizing acc with
  | nil => simp
  | cons b bs ih =>
    have h0 := hq 0 (by simp)
    simp only [Nat.zero_add, List.take_succ_cons, List.take_zero] at h0
    simp only [List.map_cons, List.cons_append, State.receiveLine, List.foldl_cons]
    have : (s.setPort p { s.port p with rx := some acc }).receiveByte p ⟨b, true⟩ =
        s.setPort p { s.port p with rx := some (acc ++ [b]) } := by
      simp [State.receiveByte, rxByte, h0, State.setPort_setPort]
    rw [this]
    have := ih (acc ++ [b]) (fun k hk => by
      have := hq (k+1) (by simpa using hk)
      simpa using this)
    simpa [State.receiveLine] using this

/-- Header and payload of a frame (R172). -/
theorem Frame.body_length (f : Frame) : f.body.length = 4 + f.payload.length := by simp [Frame.body]; omega

/-- The length of a frame stands in its header's third byte (R172). -/
theorem Frame.byteAt_body (f : Frame) (h : f.payload.length ≤ 64) (k : Nat) (l : List Byte) (hk : 4 ≤ k) :
    byteAt ((f.body ++ l).take k) 2 = f.payload.length := by
  obtain ⟨k, rfl⟩ := Nat.exists_eq_add_of_le' hk
  simp [Frame.body, byteAt]; omega

/-- A check word is two bytes (R158). -/
theorem checkBytes_length (l) : (checkBytes l).length = 2 := rfl

/-- A start byte, a header and payload,
    and two bytes of check word are received as the frame they check as (R158, R159). -/
theorem State.receiveLine_body (s : State) (p : PortId) (f : Frame) (h : f.payload.length ≤ 64) (w :
    List Byte) (hw : w.length = 2)
    (hrx : (s.port p).rx = none) :
    s.receiveLine p ((0xA5 :: (f.body ++ w)).map fun b => ⟨b, true⟩) =
      match checkFrame (f.body ++ w) with
      | .quiet => s
      | .garbled => s.setGarbled p
      | .received g => s.takeFrame p g := by
  obtain ⟨w0, w1, rfl⟩ : ∃ a b, w = [a, b] := by
    match w, hw with
    | [a, b], _ => exact ⟨a, b, rfl⟩
  have e1 : s.receiveByte p ⟨0xA5, true⟩ = s.setPort p { s.port p with rx := some [] } := by
    simp [State.receiveByte, rxByte, hrx]
  simp only [State.receiveLine, List.map_cons, List.foldl_cons]
  rw [e1]
  have := State.receiveLine_quiet s p (f.body ++ [w0]) [] [⟨w1, true⟩] (by
    intro k hk
    simp only [List.nil_append]
    have hl : ((f.body ++ [w0]).take (k + 1)).length = k + 1 := by simp at hk ⊢; omega
    unfold assembled
    rw [hl]
    by_cases h4 : k + 1 < 4
    · simp [h4]
    · rw [Frame.byteAt_body f h (k+1) [w0] (by omega)]
      have := Frame.body_length f
      simp at hk
      simp only [h4, if_false, Config.payloadLimit]
      rw [if_neg (by omega), if_pos (by omega)])
  have e2 : (f.body ++ [w0, w1]) = (f.body ++ [w0]) ++ [w1] := by simp
  rw [e2, List.map_append]
  have t := this
  simp only [State.receiveLine, List.nil_append] at t
  rw [show ([w1] : List Byte).map (fun b => (⟨b, true⟩ : LineByte)) = [⟨w1, true⟩] from rfl, t]
  simp only [List.foldl_cons, List.foldl_nil, State.receiveByte, State.port_setPort, if_true, rxByte]
  have hb := Frame.byteAt_body f h (f.body.length + 2) [w0, w1] (by have := Frame.body_length f; omega)
  have hl : ((f.body ++ [w0]) ++ [w1]).length = f.payload.length + 6 := by simp [Frame.body_length]; omega
  have hb' : byteAt ((f.body ++ [w0]) ++ [w1]) 2 = f.payload.length := by
    rw [← hb]; congr 1; simp
  have ea : assembled ((f.body ++ [w0]) ++ [w1]) = (none, checkFrame ((f.body ++ [w0]) ++ [w1])) := by
    unfold assembled
    rw [hl, hb', if_neg (by omega), if_neg (by simp [Config.payloadLimit]; omega), if_neg (by omega)]
  rw [ea]
  have hs : (s.setPort p { s.port p with rx := none }) = s := by
    have : ({ s.port p with rx := none } : Port) = s.port p := by rw [← hrx]
    rw [this, State.setPort_self]
  simp only [State.setPort_setPort]
  rw [hs]
  all_goals rfl

/-- A complete frame is taken when its check word is that of its bytes and its kind is one the 4120 takes (R159). -/
theorem checkFrame_body (f : Frame) (h : f.payload.length ≤ 64) (w : List Byte) (hw : w.length = 2) :
    checkFrame (f.body ++ w) = if w = checkBytes f.body then
      (match f.kind with | .request | .reading => .received f | _ => .garbled) else .garbled := by
  have hb := Frame.byteAt_body f h (f.body.length + 2) w (by have := Frame.body_length f; omega)
  have hb' : byteAt (f.body ++ w) 2 = f.payload.length := by
    rw [← hb]; congr 1; rw [List.take_of_length_le]; simp [hw]
  unfold checkFrame
  have hl := Frame.body_length f
  rw [hb', ← hl]
  simp only [List.take_left', List.drop_left']
  have : (f.body ++ w).getD 0 0 = f.kind.byte := rfl
  have h1 : (f.body ++ w).getD 1 0 = f.tag := rfl
  have h3 : (f.body ++ w).getD 3 0 = f.code := rfl
  have h4 : f.body.drop 4 = f.payload := rfl
  rw [this, h1, h3, h4]
  split
  · cases f with | mk k t c pl => cases k <;> simp [FrameKind.byte, FrameKind.taken]
  · rfl

end Sys2Proof.Machine
end

