-- ==== Sys2Proof/Laws/Records.lean ====
section
/-! SUPPORT. The record memory's operations, the frames that a read of a file sends, the files that stay live through
it, the handle check of a station's request, and what the set-up of an analyzer leaves. -/

namespace Sys2Proof.Machine

/-- A granted reading request ends as its item does on the state with its disturbances, answered with that item's code
and data (R163, R178). -/
theorem State.serveReading_answers {s : State} {r : Request} {ds : Disturbances}
    {item : PortId → List Byte → State → Reply} {p : PortId} {h : Held} (hg : (s.disturb ds).grants r p h)
    {t : State} {code : AnswerCode} {data : List Byte}
    (hi : item p h.payload ((s.disturb ds).granting p) = ⟨t, code, data⟩) :
    (Host.Outcome.next (s.serveReading r ds item) : Outcome) = .next (t.answer p h.tag code data) := by
  have hs : s.grants r p h := hg
  rw [State.serveReading_of_grants s hs, hi]

/-! ## Errors (R178 to R181) -/

/-- An error is single-bit where no word has more than one wrong bit (R179). -/
theorem errorKind_correctable {errs : RecordErrors} (h : ∀ x ∈ errs, x.multiple = false) :
    errorKind errs = .correctable := by
  simp [errorKind]; exact h

/-- A word that goes wrong stands in error instead of what stood there before, beside the other words (R178). -/
theorem mem_insertError (errs : RecordErrors) (e x) :
    x ∈ insertError errs e ↔ x = e ∨ (x.word ≠ e.word ∧ x ∈ errs) := by
  simp [insertError]; constructor
  · rintro (⟨h1, h2⟩ | h | ⟨h1, h2⟩)
    · exact .inr ⟨by omega, h1⟩
    · exact .inl h
    · exact .inr ⟨by omega, h1⟩
  · rintro (h | ⟨h1, h2⟩)
    · exact .inr (.inl h)
    · rcases Nat.lt_or_gt_of_ne h1 with h | h
      · exact .inl ⟨h2, h⟩
      · exact .inr (.inr ⟨h2, h⟩)

/-! ## Frames -/

/-- What a notice sends depends on the ports and the routing alone (R184). -/
theorem State.ports_raise_congr {s t : State} (hp : s.ports = t.ports)
    (hr : ∀ k, s.router.route k = t.router.route k) (k n d) : (s.raise k n d).ports = (t.raise k n d).ports := by
  apply State.ports_ext; intro p; rw [State.port_raise, State.port_raise, hr, State.port_congr hp]

/-- What a directive sends depends on the ports alone (R46, R160). -/
theorem State.ports_direct_congr {s t : State} (hp : s.ports = t.ports) (c d l) :
    (s.direct c d l).ports = (t.direct c d l).ports := by
  unfold State.direct; rw [State.portOf_congr hp]; split
  · simp [State.hand, State.setPort, hp, State.port_congr hp]
  · exact hp

/-- An error raises its FAULT notice where the capture record was unlocked or the multi-notice switch is ON (R183). -/
theorem State.ports_captureError (s : State) (i item errs) : (s.captureError i item errs).ports =
    (if s.router.multi || s.router.capture.isNone then
      s.raise .fault (bytesOf 1 i.val ++ bytesOf 11 0) (errorKind errs).byte else s).ports := by
  unfold State.captureError; dsimp only
  split <;> rename_i h
  · have h : (s.router.multi || s.router.capture.isNone) = true := h
    unfold State.raise; dsimp only
    have : ({ s with router := { s.router with capture := some (s.router.capture.getD
      ⟨errorKind errs, i, errorSyndrome errs, item⟩) } } : State).router.route .fault = s.router.route .fault := rfl
    rw [this]; split <;> rfl
  · rfl

/-- A recomputation raises its VERDICT notice exactly where the verdict changes (R146). -/
theorem State.ports_recompute (s : State) (i f) (hf : s.file i = some f) : (s.recompute i).ports =
    (if f.verdictNow = f.verdict then s else s.raise .verdict f.serial f.verdictNow.byte).ports := by
  unfold State.recompute; rw [hf]; simp only; split
  · rfl
  · exact State.ports_raise_congr (State.setFile_ports s i _) (fun k => by simp) _ _ _

/-! ## Live files -/

@[simp] theorem State.file_restChannel (s : State) (c i) : (s.restChannel c).file i = s.file i := by
  simp [State.file]

@[simp] theorem State.file_directEnd (s : State) (c b x y i) : (s.directEnd c b x y).file i = s.file i := by
  simp [State.file]

@[simp] theorem State.file_dropPosting (s : State) (c i) : (s.dropPosting c).file i = s.file i := rfl

@[simp] theorem State.file_captureError (s : State) (i it e j) : (s.captureError i it e).file j = s.file j := by
  simp [State.file]

/-- A recomputation keeps every file live (R6). -/
theorem State.live_recompute (s : State) (i j) : ((s.recompute i).file j).isSome = (s.file j).isSome := by
  rw [State.file_recompute]; split <;> simp

/-- Writing a stage record keeps every file live. -/
theorem State.live_modStage (s : State) (h t g j) : ((s.modStage h t g).file j).isSome = (s.file j).isSome := by
  unfold State.modStage; split
  · rename_i f hf
    rw [State.file_setFile]; split
    · rename_i hh; subst hh; rw [(State.fileAt_eq.1 hf).2]; rfl
    · rfl
  · rfl

/-- An engine-side end keeps every file live (R62). -/
theorem State.live_engineEnd (s : State) (c x i) : ((s.engineEnd c x).file i).isSome = (s.file i).isSome := by
  unfold State.engineEnd; split
  · simp only [State.live_recompute, State.file_directEnd, State.file_restChannel, State.live_modStage,
      State.file_dropPosting]
  · rfl

/-- The read of a file keeps every file live, though it may damage the one it reads (R5, R14). -/
theorem State.live_readFile (s : State) (it i j) : ((s.readFile it i).file j).isSome = (s.file j).isSome := by
  unfold State.readFile; dsimp only; split
  · rename_i f hf
    have hx : ∀ g, ((((s.captureError i it (s.slot i).errors).setErrors i []).setFile i g).file j).isSome =
        (s.file j).isSome := by
      intro g; rw [State.file_setFile]; split
      · rename_i h; subst h; rw [hf]; rfl
      · simp
    repeat' split
    · rfl
    · simp
    · unfold State.damage; dsimp only
      rw [State.live_recompute]; split
      · rw [State.live_engineEnd, hx]
      · rw [hx]
  · rfl

/-! ## Stations and their requests -/

/-- The channel of a role is the one whose role it is (R46). -/
theorem Role.channel_eq_some (r : Role) (c : ChannelId) : r.channel = some c ↔ r = c.role := by
  cases r <;> cases c <;> simp [Role.channel, ChannelId.role]

/-- A role has no channel where it is no channel's (R46). -/
theorem Role.channel_eq_none (r : Role) : r.channel = none ↔ ∀ c : ChannelId, r ≠ c.role := by
  constructor
  · intro h c hc; rw [(Role.channel_eq_some r c).2 hc] at h; simp at h
  · intro h; cases hr : r.channel with
    | none => rfl
    | some c => exact absurd ((Role.channel_eq_some r c).1 hr) (h c)

/-- The handle check of a request: RANGE for a slot above 47, STALE where no file has the handle, else the file is read
and the request goes on (R2, R14). -/
theorem State.onHandle_eq (s : State) (r a g l go) : s.onHandle r (a :: g :: l) go =
    if h : a.toNat < 48 then
      (match s.fileAt ⟨⟨a.toNat, h⟩, g⟩ with
        | some _ => go ⟨⟨a.toNat, h⟩, g⟩ (s.readFile (.request r) ⟨a.toNat, h⟩)
        | none => s.reply .stale)
    else s.reply .range := rfl

/-- The set-up of an analyzer changes the analyzers alone (R72, R106, R129). -/
theorem State.startAnalyzer_frame (s : State) (c) : (s.startAnalyzer c).engine = s.engine ∧
    (s.startAnalyzer c).chans = s.chans ∧ (s.startAnalyzer c).arbiter = s.arbiter ∧
    (s.startAnalyzer c).store = s.store ∧ (s.startAnalyzer c).router = s.router ∧
    (s.startAnalyzer c).audio = s.audio ∧ (s.startAnalyzer c).ports = s.ports := by
  unfold State.startAnalyzer; cases c <;> simp [State.setMonitor, State.setLeak]

/-- The analyzer set up depends on the recipe and the analyzers alone (R72, R106, R129). -/
theorem State.startAnalyzer_congr {s t : State} (c) (hb : s.bankOf c = t.bankOf c) (hm : s.monitors = t.monitors)
    (hi : s.input = t.input) (hn : s.noise = t.noise) (hl : s.leaks = t.leaks) :
    (s.startAnalyzer c).monitors = (t.startAnalyzer c).monitors ∧
    (s.startAnalyzer c).input = (t.startAnalyzer c).input ∧
    (s.startAnalyzer c).noise = (t.startAnalyzer c).noise ∧
    (s.startAnalyzer c).leaks = (t.startAnalyzer c).leaks := by
  unfold State.startAnalyzer; rw [hb]; cases c <;> simp [State.setMonitor, State.setLeak, hm, hi, hn, hl]

end Sys2Proof.Machine
end

