-- ==== Sys2Proof/Tests/Slice0.lean ====
section
/-! SUPPORT. Tests on fixed values: the checks of WellFormed refuse ill-formed commands; the spec's worked values; a
command or two of each row on a small state; and, named witness_…, for each statement of
Sys2Proof/Certificates/Slice0/Obligations.lean that has hypotheses, states and operands that meet them, at the ends of
their ranges, with what the command answers there. -/

namespace Sys2Proof.Tests

open Sys2Proof Sys2Proof.Machine

set_option Elab.async false

/-! ## Small states -/

/-- The state a command leaves. -/
def after (c : Instr) (s : State) : State :=
  match exec c s with
  | .next t => t
  | _ => s

/-- The newest frame a port holds after a command: kind, code and payload. -/
def newest (c : Instr) (s : State) (p : PortId) : Option (FrameKind × Nat × List Byte) :=
  ((after c s).port p).tx.getLast?.map fun f => (f.kind, f.code.toNat, f.payload)

/-- A port holding a request with tag 7. -/
def asks (s : State) (p : PortId) (r : Request) (payload : List Byte) : State :=
  s.setPort p { s.port p with held := some ⟨7, r, payload⟩ }

/-- The supervisor's port holding a request, right after reset. -/
def sup (r : Request) (payload : List Byte) : State := asks .reset 0 r payload

/-- A port with a role. -/
def station (s : State) (p : PortId) (role : Role) : State := s.setPort p { s.port p with role := role }

/-- The serial AAAAAAAAAAA1. -/
def axle : Serial := List.replicate 11 0x41 ++ [0x31]

/-- Words of a recipe entry. -/
def row (l : List Nat) : List Word := l.map (BitVec.ofNat 32)

/-- A recipe that passes validation: two steps, one band. -/
def recipe : Contents :=
  (((((Contents.zero.setEntry .general 0 (row [7, 2, 2, 2, 1 + 2 * 256 + 3 * 65536, 600, 600, 600])).setEntry .steps 0
    (row [0, 1200, 60, 8000, 7000, 9000, 1100, 1200, 20, 0])).setEntry .steps 1
    (row [1, 1200, 60, 8000, 7000, 9000, 1100, 1200, 20 + 100 * 65536, 400])).setEntry .noise 0
    (row [900, 128, 256, 1, 4, 1, 4, 2, 40000, 40000])).setEntry .bands 0 (row [8, 120, 150])).setEntry .leak 0
    (row [200000, 2000, 20000, 10000, 5000, 30000, 4500, 25000, 15000, 0])

/-- A stage record. -/
def stage (x : StageState) (c : Option ChannelId) (attempts reopens : Nat) : StageRecord :=
  ⟨x, attempts, reopens, c, none⟩

/-- A stage record as ADMIT writes it. -/
def fresh : StageRecord := stage .opened none 0 0

/-- Stage records whose run-in stage is the given one. -/
def runinIs (r : StageRecord) : Option StageRecords := some ⟨r, fresh, fresh⟩

/-- The axle's file, with its verdict as it stands. -/
def fileOf (holds : List Nat) (rs : Option StageRecords) : FileRec :=
  let f : FileRec := ⟨axle, 5, 1, 2, holds, .pending, rs⟩
  { f with verdict := f.verdictNow }

/-- Right after reset, but bank 2 READY as the default disposition, and one file in slot 0. -/
def live (f : FileRec) : State :=
  { State.reset with
    engine := { State.reset.engine with
      slots := State.reset.engine.slots.set 0 ⟨0, some f, []⟩
      index := [(f.serial, 0)]
      lineOrder := [0]
      admissions := 1 }
    store := { State.reset.store with
      banks := State.reset.store.banks.set 2 ⟨.ready 2 1, 1, recipe⟩
      fallback := some 2 } }

/-- The first word of slot 0's record goes wrong. -/
def wrong (syndrome : Byte) (multiple : Bool) : Disturbance := ⟨0, ⟨0, syndrome, multiple, false⟩⟩

/-- The handle of the file in slot 0. -/
def h0 : Handle := ⟨0, 0⟩

/-- A channel bound to the file in slot 0. -/
def bound (s : State) (c : ChannelId) (x : ChanState) (claimTimer stageTimer : Option Nat) : State :=
  s.setChan c ⟨x, some ⟨h0, c.stage⟩, claimTimer, stageTimer⟩

/-- Channel RA RUNNING on the axle, with a monitor. -/
def running (m : Monitor) : State :=
  (bound (station (live (fileOf [] (runinIs (stage .running (some .ra) 1 0)))) 3 .runinA) .ra .running none
    (some 600000)).setMonitor .a m

/-- Channel LA RUNNING on the axle, with an analyzer. -/
def leaking (a : LeakAnalyzer) : State :=
  (bound (station (live (fileOf [] (some ⟨stage .passed none 1 0, stage .passed none 1 0,
    stage .running (some .la) 1 0⟩))) 6 .leakA) .la .running none (some 600000)).setLeak .a a

/-- Channel N RUNNING on the axle, with an input section and an analyzer. -/
def hearing (i : InputSection) (a : Analyzer) : State :=
  { bound (station (live (fileOf [] (some ⟨stage .passed none 1 0, stage .running (some .n) 1 0, fresh⟩))) 5 .noise)
      .n .running none (some 600000) with
    input := i
    noise := a }

/-! ## WellFormed refuses -/

theorem test_wellFormed_refuses_long_request :
    (Instr.requestFrame 1 0 1 (List.replicate 65 0)).wellFormed = false ∧
    (Instr.requestFrame 1 0 1 (List.replicate 64 0)).wellFormed = true := by decide
theorem test_wellFormed_refuses_long_reading :
    (Instr.readingFrame 1 0 (List.replicate 65 0)).wellFormed = false ∧
    (Instr.readingFrame 1 0 (List.replicate 64 0)).wellFormed = true := by decide
theorem test_wellFormed_refuses_empty_line :
    (Instr.garbledFrame 1 []).wellFormed = false ∧ (Instr.garbledFrame 1 [⟨0, false⟩]).wellFormed = true := by decide
theorem test_wellFormed_refuses_syndrome_zero :
    let ds : Disturbances := [⟨47, ⟨0, 1, false, false⟩⟩, ⟨0, ⟨0, 0, true, false⟩⟩]
    ∀ c ∈ [Instr.lookup ds, .list ds, .holdFile ds, .liftHold ds, .reopenStage ds, .claim ds, .start ds, .abandon ds,
      .result ds, .release ds, .report ds, .forceRetire ds, .endPostingApplied ds, .lapsePostingApplied ds,
      .cellReset ds], c.wellFormed = false := by decide
theorem test_wellFormed_accepts_syndromes :
    (Instr.lookup [⟨0, ⟨0, 1, false, false⟩⟩, ⟨47, ⟨9, 255, true, true⟩⟩]).wellFormed = true := by decide

/-! ## Worked values of the spec -/

/-- R158, NOTE: the nine bytes of the characters 1 to 9 give 29B1h. -/
theorem test_crc_check_value :
    crc16 [0x31, 0x32, 0x33, 0x34, 0x35, 0x36, 0x37, 0x38, 0x39] = 0x29B1#16 := by decide +kernel
/-- R117: T(0), T(16), T(32), T(64), T(96), T(127). -/
theorem test_sine_values :
    [sine 0, sine 16, sine 32, sine 64, sine 96, sine 127, cosine 0] = [0, 23170, 32768, 0, -32768, -1608, 32768] := by
  decide +kernel
/-- 00: ties go away from zero. -/
theorem test_rounding_ties :
    [roundDiv 203 2, roundDiv (-203) 2, roundDiv 5 3, roundDiv (-5) 3] = [102, -102, 2, -2] := by decide
theorem test_isqrt_values : [isqrt 0, isqrt 1, isqrt 4899, isqrt 4900, isqrt 1225] = [0, 1, 69, 70, 35] := by
  decide +kernel
/-- R93, Table 5-5. -/
theorem test_normalized_values :
    [normalize .w16 32767, normalize .w16 (-32768), normalize .w16 (-1), normalize .w32 2147483647, normalize .w32 255,
      normalize .w32 (-1), normalize .w32 (-257)] = [8388352, -8388608, -256, 8388607, 0, -1, -2] := by decide
/-- R94: MEAN is toward zero. -/
theorem test_mean_values :
    [stereoSample .mean (-3) 0, stereoSample .mean (-8388608) (-8388607), stereoSample .mean 4772 (-3898)] =
      [-1, -8388607, 437] := by decide
/-- 07, 7.8: the compensated decay and the leak rate of the worked test. -/
theorem test_leak_worked_values :
    evaluateLeak recipe.leakFields ⟨200000, 2150⟩ ⟨199880, 2160⟩ = ⟨19718, 222, false⟩ := by decide +kernel
/-- R140: an end pressure that stands above the start pressure sets the rise flag and counts as no decay. -/
theorem test_leak_rise :
    evaluateLeak recipe.leakFields ⟨200000, 2150⟩ ⟨200000, 2140⟩ = ⟨0, 0, true⟩ := by decide +kernel
/-- R112: 130 samples over 128 slots put two samples into slots 0 and 64. -/
theorem test_fold_of_130 :
    let b := AccBank.clear.fold (List.replicate 130 3)
    (b.accepted, b.slots.getD 0 ⟨0, 0⟩, b.slots.getD 1 ⟨0, 0⟩, b.slots.getD 64 ⟨0, 0⟩, b.slots.getD 127 ⟨0, 0⟩) =
      (1, ⟨6, 2⟩, ⟨3, 1⟩, ⟨6, 2⟩, ⟨3, 1⟩) := by decide +kernel
/-- R173: numbers as bytes, most significant first. -/
theorem test_bytes : bytesOf 3 0x012345 = [0x01, 0x23, 0x45] ∧ bytesOfInt 2 (-2) = [0xFF, 0xFE] ∧
    intOf [0xFF, 0xFE] = -2 ∧ natOf [0x01, 0x00] = 256 := by decide
theorem test_recipe_is_valid : recipe.firstBad = none ∧ recipe.countSteps = 2 ∧ recipe.countBands = 1 := by
  decide +kernel

/-! ## The step, the links and the arbiter -/

/-- The state a step leaves. -/
def stepped (s : State) : State :=
  match step s with
  | .next t => t
  | _ => s

theorem test_step_takes_the_front :
    (stepped { sup .setStray [0] with pending := [.setStray, .status] }).pending = [.status] ∧
    (stepped { sup .setStray [0] with pending := [.setStray, .status] }).engine.strayEnabled = false := by
  decide +kernel
theorem witness_StepRunsTheFrontCommand : State.reset.pending = [] ∧ stepped .reset = .reset := by decide +kernel
theorem witness_RequestTableHasItsCodesLengthsAndRoles :
    Request.admitAxle.code = 1 ∧ Request.setMulti.code = 37 ∧ Request.ofCode 1 = some .admitAxle ∧
    Request.ofCode 37 = some .setMulti ∧ Request.holdFile.code = 4 ∧ Request.liftHold.code = 5 ∧
    Request.openBank.code = 15 ∧ Request.publishBank.code = 16 ∧ Request.ofCode 0 = none ∧
    Request.ofCode 38 = none := by decide +kernel
theorem test_enumerated_values_at_their_ends :
    AnswerCode.done.byte = 0 ∧ AnswerCode.mode.byte = 20 ∧ Role.unassigned.byte = 0 ∧ Role.supervisor.byte = 8 ∧
    Cause.none.num = 0 ∧ Cause.forced.num = 21 ∧ StageState.waived.byte = 6 ∧ channelByte none = 0 ∧
    channelByte (some .lb) = 5 ∧ Verdict.hold.byte = 4 ∧ EndCode.cutShort.num = 3 ∧ Direction.ofByte 1 = some .read ∧
    Direction.ofByte 2 = none ∧ widthByte (some .w32) = 32 ∧ dispositionByte none = 0xFF ∧
    bytesOf 2 4660 = [0x12, 0x34] ∧ bytesOfInt 2 (-2) = [0xFF, 0xFE] ∧ natOf [0x12, 0x34] = 4660 ∧
    wordsOf [0, 0, 0, 9, 1, 2, 3, 4] = [9, 0x01020304] ∧ (⟨47, 255⟩ : Handle).bytes = [47, 255] ∧
    isSerialByte 0x39 = true ∧ isSerialByte 0x3A = false ∧ isSerialByte 0x40 = false ∧ isSerialByte 0x5A = true ∧
    (recipe.step 2).bytes = [1, 4, 176, 0, 60, 31, 64, 27, 88, 35, 40, 4, 76, 4, 176, 0, 20, 0, 100, 1, 144] := by
  decide +kernel
theorem witness_RequestFrameIsAnsweredByThePortOrHeld :
    (sup .status []).resetLow = false ∧ ((sup .status []).port 0).rx = none ∧
    ((sup .status []).port 0).held.isSome = true ∧
    newest (.requestFrame 0 9 30 []) (sup .status []) 0 = some (.answer, 1, []) ∧
    (State.reset.port 0).held = none ∧ Request.ofCode 38 = none ∧
    newest (.requestFrame 0 9 38 []) .reset 0 = some (.answer, 3, []) ∧
    Request.admitAxle.permitted (State.reset.port 1).role = false ∧
    newest (.requestFrame 1 9 1 (List.replicate 64 0)) .reset 1 = some (.answer, 2, []) ∧
    Request.admitAxle.permitted ((station .reset 1 .entry).port 1).role = true ∧
    newest (.requestFrame 1 9 1 (List.replicate 15 0)) (station .reset 1 .entry) 1 = some (.answer, 3, []) ∧
    ((after (.requestFrame 1 9 1 (List.replicate 16 0)) (station .reset 1 .entry)).port 1).held =
      some ⟨9, .admitAxle, List.replicate 16 0⟩ := by decide +kernel
theorem witness_EveryFrameOnTheLineIsReceivedAsItself :
    (State.reset.port 1).rx = none ∧ (List.replicate 64 (0 : Byte)).length ≤ 64 ∧
    ((State.reset.receiveLine 1 (Frame.line ⟨.reading, 0, 1, List.replicate 64 0⟩)).port 1).garbled = true ∧
    State.reset.receiveLine 1 (Frame.line ⟨.reading, 0, 0, []⟩) = .reset ∧
    ((State.reset.receiveLine 1 (Frame.line ⟨.answer, 0, 0, []⟩)).port 1).garbled = true := by decide +kernel

/-- A port that has met A5h and some bytes after it. -/
def assembling (bytes : List Byte) : State := State.reset.setPort 1 { State.reset.port 1 with rx := some bytes }

theorem witness_DiscardedFramesSetTheGarbledFlag :
    (assembling []).resetLow = false ∧ ((assembling []).port 1).rx.isSome = true ∧
    ((after (.garbledFrame 1 [⟨0xA5, false⟩]) (assembling [])).port 1).garbled = true ∧
    ((after (.interbyteTimeout 1) (assembling [1, 0, 64])).port 1).garbled = true ∧
    (State.reset.port 1).rx = none ∧
    [0, 0] ≠ checkBytes (Frame.body ⟨.request, 0, 30, []⟩) ∧
    ((after (.garbledFrame 1 ((0xA5 :: (Frame.body ⟨.request, 0, 30, []⟩ ++ [0, 0])).map fun b => ⟨b, true⟩))
      .reset).port 1).garbled = true ∧
    (∀ kind ∈ [(0 : Byte), 6, 255], ((after (.garbledFrame 1
      ((0xA5 :: ([kind, 9, 0, 30] ++ checkBytes [kind, 9, 0, 30])).map fun b => ⟨b, true⟩)) .reset).port 1).garbled =
        true) ∧
    64 < (65 : Byte).toNat ∧
    ((after (.garbledFrame 1 ([0xA5, 1, 0, 65, 30].map fun b => ⟨b, true⟩)) .reset).port 1).garbled = true ∧
    after (.garbledFrame 1 [⟨0, false⟩]) .reset = .reset ∧ after (.garbledFrame 1 [⟨0xA4, true⟩]) .reset = .reset := by
  decide +kernel

/-- A port that holds a number of unsent notices. -/
def noticed (n : Nat) : State :=
  State.reset.setPort 0 { State.reset.port 0 with tx := List.replicate n ⟨.notice, 0, 1, []⟩ }

theorem witness_PortsSendInOrderAndNoticesGoToTheirPortSet :
    (noticed 1).resetLow = false ∧ ((noticed 1).port 0).tx = ⟨.notice, 0, 1, []⟩ :: [] ∧
    ((after (.frameSent 0) (noticed 1)).port 0).tx = [] ∧
    ((noticed 7).router.route .stray).enable = true ∧ ((noticed 7).router.route .stray).ports.getLsbD 0 = true ∧
    ((noticed 7).port 0).unsentNotices < 8 ∧ (((noticed 7).raise .stray [] 0).port 0).tx.length = 8 ∧
    8 ≤ ((noticed 8).port 0).unsentNotices ∧ (((noticed 8).raise .stray [] 0).port 0).overrun = true ∧
    ((noticed 7).router.route .stray).ports.getLsbD 1 = false := by decide +kernel

/-- A run-in reading of step 1 with speed 1,200, torque 8,000 and temperatures 50.0, 50.0 and 60.0. -/
def good : RunInReading := ⟨1, ⟨some 1200, some 8000, some 500, some 500, some 600⟩⟩

/-- The payload of that reading. -/
def goodBytes : List Byte :=
  [1, 31] ++ bytesOf 2 1200 ++ bytesOf 2 8000 ++ bytesOf 2 500 ++ bytesOf 2 500 ++ bytesOf 2 600

/-- A monitor with a queue and one count on every invalid counter. -/
def queued (n count : Nat) : Monitor :=
  { Monitor.started (recipe.step 1) with queue := List.replicate n good, invalid := .all count }

theorem test_reading_decodes : runInReadingOf goodBytes = good ∧
    runInReadingOf ([1, 30] ++ goodBytes.drop 2) = { good with values := { good.values with speed := none } } ∧
    leakReadingOf [1, 0, 3, 13, 64, 8, 102] = some ⟨200000, 2150⟩ ∧ leakReadingOf [0, 0, 3, 13, 64, 8, 102] = none := by
  decide +kernel

/-- The values of a RUNIN reading's bytes. -/
def runinValues (valid : Byte) (speed : Nat) (torque oil bearing1 bearing2 : Int) : Five (Option Int) :=
  (runInReadingOf ([1, valid] ++ bytesOf 2 speed ++ bytesOfInt 2 torque ++ bytesOfInt 2 oil ++ bytesOfInt 2 bearing1 ++
    bytesOfInt 2 bearing2)).values

theorem test_reading_ranges_end_where_the_rule_ends_them :
    runinValues 31 3000 30000 2500 (-400) 2500 = ⟨some 3000, some 30000, some 2500, some (-400), some 2500⟩ ∧
    runinValues 31 0 (-30000) (-400) 2500 (-400) = ⟨some 0, some (-30000), some (-400), some 2500, some (-400)⟩ ∧
    runinValues 31 3001 30001 2501 (-401) 2501 = ⟨none, none, none, none, none⟩ ∧
    runinValues 31 65535 (-30001) (-401) 2501 (-401) = ⟨none, none, none, none, none⟩ ∧
    runinValues 1 1 2 3 4 5 = ⟨some 1, none, none, none, none⟩ ∧
    runinValues 2 1 2 3 4 5 = ⟨none, some 2, none, none, none⟩ ∧
    runinValues 4 1 2 3 4 5 = ⟨none, none, some 3, none, none⟩ ∧
    runinValues 8 1 2 3 4 5 = ⟨none, none, none, some 4, none⟩ ∧
    runinValues 240 1 2 3 4 5 = ⟨none, none, none, none, some 5⟩ ∧
    leakReadingOf ([1] ++ bytesOf 4 1000000 ++ bytesOf 2 15000) = some ⟨1000000, 15000⟩ ∧
    leakReadingOf ([255] ++ bytesOf 4 0 ++ bytesOfInt 2 (-4000)) = some ⟨0, -4000⟩ ∧
    leakReadingOf ([1] ++ bytesOf 4 1000001 ++ bytesOf 2 0) = none ∧
    leakReadingOf ([1] ++ bytesOfInt 4 (-1) ++ bytesOf 2 0) = none ∧
    leakReadingOf ([1] ++ bytesOf 4 0 ++ bytesOf 2 15001) = none ∧
    leakReadingOf ([1] ++ bytesOf 4 0 ++ bytesOfInt 2 (-4001)) = none ∧
    leakReadingOf ([254] ++ bytesOf 4 0 ++ bytesOf 2 0) = none := by decide +kernel
theorem witness_RunInReadingIsQueuedOrCounted :
    (running (queued 15 0)).resetLow = false ∧ ((running (queued 15 0)).port 3).rx = none ∧
    ((running (queued 15 0)).port 3).role = (RunInCh.a).id.role ∧ goodBytes.length = 12 ∧
    ((running (queued 15 0)).chan .ra).state = .running ∧ (queued 15 0).queue.length < 16 ∧
    (after (.readingFrame 3 0 goodBytes) (running (queued 15 0))).monitors.a.queue.length = 16 ∧
    16 ≤ (queued 16 1).queue.length ∧ ((running (queued 16 1)).bankOf .ra).contents.invalidLimit = 3 ∧
    (after (.readingFrame 3 0 goodBytes) (running (queued 16 1))).monitors.a.invalid = .all 2 ∧
    ((after (.readingFrame 3 0 goodBytes) (running (queued 16 2))).chan .ra).state = .ending ∧
    newest (.readingFrame 3 0 goodBytes) (running (queued 16 2)) 3 = some (.directive, 4, [0, 0, 1, 3, 5]) := by
  decide +kernel

/-- A leak analyzer with a queue, in a phase. -/
def waiting (phase : LeakPhase) (n : Nat) : LeakAnalyzer :=
  { LeakAnalyzer.started recipe.leakFields with phase := some phase, queue := List.replicate n none }

/-- A payload of a LEAK reading. -/
def leakBytes : List Byte := [1, 0, 3, 13, 64, 8, 102]

theorem witness_ReadingIsQueuedForItsRunningChannelOrDiscarded :
    (leaking (waiting .fill 15)).resetLow = false ∧ ((leaking (waiting .fill 15)).port 6).rx = none ∧
    ((leaking (waiting .fill 15)).port 6).role = (LeakCh.a).id.role ∧ leakBytes.length = 7 ∧
    ((leaking (waiting .fill 15)).chan .la).state = .running ∧
    (after (.readingFrame 6 0 leakBytes) (leaking (waiting .fill 15))).leaks.a.queue.length = 16 ∧
    after (.readingFrame 6 0 leakBytes) (leaking (waiting .measure 16)) = leaking (waiting .measure 16) ∧
    after (.readingFrame 6 0 leakBytes) (leaking (waiting .evaluate 0)) = leaking (waiting .evaluate 0) ∧
    ((station .reset 6 .leakA).chan .la).state ≠ .running ∧
    after (.readingFrame 6 0 leakBytes) (station .reset 6 .leakA) = station .reset 6 .leakA ∧
    (State.reset.port 1).role.readingLength = none ∧ after (.readingFrame 1 0 leakBytes) .reset = .reset ∧
    ((station .reset 6 .leakA).port 6).role.readingLength = some 7 ∧
    ((after (.readingFrame 6 0 (List.replicate 64 0)) (station .reset 6 .leakA)).port 6).garbled = true := by
  decide +kernel

/-- Ports 0, 3 and 5 holding requests, with priorities 1, 2 and 2 and the last granted port 4. -/
def contended (scheme : Scheme) : State :=
  let s := asks (asks (sup .status []) 3 .lookup axle) 5 .lookup axle
  { s with arbiter := { s.arbiter with
      scheme := scheme
      priorities := ((s.arbiter.priorities.set 0 1).set 3 2).set 5 2
      lastGranted := 4 } }

theorem witness_TheArbiterGrantsByItsScheme :
    (contended .rotating).arbiter.postings = [] ∧ ((contended .rotating).port 3).held.isSome = true ∧
    (contended .rotating).grantedPort = some 5 ∧ (contended .fixed).grantedPort = some 3 ∧
    (contended .grouped).grantedPort = some 5 ∧ (contended .portOrder).grantedPort = some 0 ∧
    State.reset.grant = none ∧
    ({ contended .fixed with arbiter := { (contended .fixed).arbiter with
        postings := [⟨.ra, h0, .runin, .lapse⟩] } } : State).grant = some (.posting ⟨.ra, h0, .runin, .lapse⟩) := by
  decide +kernel

/-! ## Resets -/

theorem witness_ResetGivesEveryBlockItsPowerOnValue :
    (State.powerOn [] true).resetLow = true ∧ after .tachEdge (.powerOn [] true) = .powerOn [] true ∧
    after .resetDeassert (.powerOn [] true) = .reset ∧ after .resetAssert (sup .setStray [0]) = .powerOn [] true := by
  decide +kernel
/-- CELL RESET held at port 0, with the axle RUNNING on channel RA and so many runs begun before. -/
def resetting (attempts : Nat) : State :=
  asks (bound (station (live (fileOf [] (runinIs (stage .running (some .ra) attempts 0)))) 3 .runinA) .ra .running none
    (some 600000)) 0 .cellReset []

theorem witness_CellResetEndsTheWorkAndKeepsTheRecords :
    (asks (running (queued 1 0)) 0 .cellReset []).grants .cellReset 0 ⟨7, .cellReset, []⟩ ∧
    newest (.cellReset []) (asks (running (queued 1 0)) 0 .cellReset []) 3 = some (.directive, 4, [0, 0, 1, 3, 19]) ∧
    ((after (.cellReset [wrong 1 true]) (asks (running (queued 1 0)) 0 .cellReset [])).file 0).map (·.damaged) =
      some true ∧
    newest (.cellReset [wrong 1 true]) (asks (running (queued 1 0)) 0 .cellReset []) 3 =
      some (.directive, 4, [0, 0, 1, 3, 20]) ∧
    ((after (.cellReset []) (asks (running (queued 1 0)) 0 .cellReset [])).chan .ra).state = .idle ∧
    (resetting 1).boundTo h0 = some .ra ∧ ((resetting 1).slot 0).errors = [] ∧ recipe.retryLimit .runin = 2 ∧
    ((after (.cellReset []) (resetting 1)).file 0).map (fun f => f.records.map (·.runin)) =
      some (some ⟨.opened, 1, 0, none, some ⟨.cutShort, .reset, none⟩⟩) ∧
    ((after (.cellReset []) (resetting 2)).file 0).map (fun f => f.records.map (·.runin)) =
      some (some ⟨.failed, 2, 0, none, some ⟨.cutShort, .reset, none⟩⟩) ∧
    (after (.cellReset []) (asks (live (fileOf [2] none)) 0 .cellReset [])).slot 0 =
      ⟨0, some (fileOf [2] none), []⟩ := by
  unfold State.grants; repeat' apply And.intro
  all_goals decide +kernel

/-! ## Axle files -/

/-- Port 1, an entry station, asks ADMIT on a cell with bank 2 READY and no file. -/
def admitting (serial : Serial) (fallback : Option BankId) (admissions : Nat) : State :=
  let s := asks (station .reset 1 .entry) 1 .admitAxle (serial ++ bytesOfWord 5)
  { s with
    engine := { s.engine with admissions := admissions }
    store := { s.store with banks := s.store.banks.set 2 ⟨.ready 2 1, 0, recipe⟩, fallback := fallback } }

/-- The same with another bank and every slot live. -/
def full : State :=
  let s := admitting axle (some 2) 0
  { s with engine := { s.engine with slots := .replicate 48 ⟨0, some (fileOf [] (runinIs fresh)), []⟩ } }

theorem witness_AdmitOpensTheFile :
    (admitting axle (some 2) 65535).grants .admitAxle 1 ⟨7, .admitAxle, axle ++ bytesOfWord 5⟩ ∧ axle.length = 12 ∧
    axle.all isSerialByte = true ∧ (admitting axle (some 2) 65535).find axle = none ∧
    (admitting axle (some 2) 65535).file 0 = none ∧ (∀ j : SlotId, j < 0 → False) ∧
    (admitting axle (some 2) 65535).store.choose 5 = some 2 ∧ ((admitting axle (some 2) 65535).bank 2).isReady = true ∧
    newest .admitAxle (admitting axle (some 2) 65535) 1 = some (.answer, 0, [0, 0, 0, 1]) ∧
    newest .admitAxle (admitting axle (some 2) 65534) 1 = some (.answer, 0, [0, 0, 255, 255]) := by
  unfold State.grants; repeat' apply And.intro
  all_goals decide +kernel
theorem witness_AdmitChoosesItsBankOrIsRefusedByTheFirstFailingCheck :
    (0x2F#8 :: axle.drop 1).all isSerialByte = false ∧
    newest .admitAxle (admitting (0x2F#8 :: axle.drop 1) (some 2) 0) 1 = some (.answer, 3, []) ∧
    (asks (station (live (fileOf [] none)) 1 .entry) 1 .admitAxle (axle ++ bytesOfWord 5)).grants .admitAxle 1
      ⟨7, .admitAxle, axle ++ bytesOfWord 5⟩ ∧
    ((live (fileOf [] none)).find axle).isSome = true ∧
    newest .admitAxle (asks (station (live (fileOf [] none)) 1 .entry) 1 .admitAxle (axle ++ bytesOfWord 5)) 1 =
      some (.answer, 6, []) ∧
    (∀ i : SlotId, (full.file i).isSome = true) ∧ full.find axle = none ∧
    newest .admitAxle full 1 = some (.answer, 7, []) ∧
    (admitting axle none 0).store.choose 5 = none ∧
    newest .admitAxle (admitting axle none 0) 1 = some (.answer, 8, []) ∧
    (admitting axle (some 3) 0).store.choose 5 = some 3 ∧ ((admitting axle (some 3) 0).bank 3).isReady = false ∧
    newest .admitAxle (admitting axle (some 3) 0) 1 = some (.answer, 9, []) ∧
    (Window.hits ⟨true, 4, 6, 0⟩ 5) = true ∧ (Window.hits ⟨true, 4, 7, 0⟩ 5) = false ∧
    (Window.hits ⟨false, 4, 6, 0⟩ 5) = false := by
  unfold State.grants; repeat' apply And.intro
  all_goals decide +kernel
theorem test_lowest_window_wins :
    let windows := ((State.reset.store.windows.set 1 ⟨true, 4, 7, 1⟩).set 3 ⟨true, 4, 6, 5⟩).set 4 ⟨true, 0, 0, 6⟩
    ({ State.reset.store with windows := windows } : Store).choose 5 = some 5 := by decide +kernel

/-- The live cell with a request at the supervisor's port. -/
def asked (f : FileRec) (r : Request) (payload : List Byte) : State := asks (live f) 0 r payload

/-- A file with nothing done. -/
def untested : FileRec := fileOf [] (runinIs fresh)

theorem witness_ReadingRequestsAnswerAndChangeNothingElse :
    (asked untested .lookup axle).grants .lookup 0 ⟨7, .lookup, axle⟩ ∧
    (asked untested .lookup axle).find (field axle 0 12) = some 0 ∧
    (asked untested .lookup axle).file 0 = some untested ∧
    (newest (.lookup []) (asked untested .lookup axle) 0).map (fun x => (x.2.1, x.2.2.length)) = some (0, 40) ∧
    newest (.lookup []) (sup .lookup axle) 0 = some (.answer, 5, []) ∧
    untested.serial.length = 12 ∧ (fileOf [1, 2, 3, 4] none).holds.length ≤ 4 ∧
    ((fileOf [1, 2, 3, 4] none).summary h0 9).drop 14 =
      bytesOfWord 5 ++ [0, 1, 2, 4, 1, 4, 1, 2, 3, 4, 9] ++ List.replicate 11 0 ∧
    ((fileOf [] (runinIs (stage .running (some .ra) 1 3))).summary h0 0).drop 28 =
      [0, 1, 1, 3, 1, 3, 1, 0, 0, 1, 0, 0] ∧
    (asked untested .report axle).grants .report 0 ⟨7, .report, axle⟩ ∧
    (newest (.report []) (asked untested .report axle) 0).map (fun x => (x.2.1, x.2.2.length)) = some (0, 63) ∧
    (asked untested .list [0]).grants .list 0 ⟨7, .list, [0]⟩ ∧
    newest (.list []) (asked untested .list [0]) 0 = some (.answer, 0, [1] ++ axle ++ [0, 0, 1, 0, 0]) ∧
    newest (.list []) (asked untested .list [1]) 0 = some (.answer, 4, [1]) ∧
    (asked untested .bankStatus [2]).grants .bankStatus 0 ⟨7, .bankStatus, [2]⟩ ∧
    newest .bankStatus (asked untested .bankStatus [2]) 0 = some (.answer, 0, [2, 1, 2, 1]) ∧
    newest .bankStatus (asked untested .bankStatus [8]) 0 = some (.answer, 4, []) ∧
    (sup .readWindow [7]).grants .readWindow 0 ⟨7, .readWindow, [7]⟩ ∧
    newest .readWindow (sup .readWindow [7]) 0 = some (.answer, 0, List.replicate 10 0 ++ [255]) ∧
    newest .readWindow (sup .readWindow [8]) 0 = some (.answer, 4, []) ∧
    (sup .audioStatus []).grants .audioStatus 0 ⟨7, .audioStatus, []⟩ ∧
    newest .audioStatus (sup .audioStatus []) 0 = some (.answer, 0, [0, 0, 0, 0, 0, 3, 60, 0, 0]) ∧
    (sup .readCapture []).grants .readCapture 0 ⟨7, .readCapture, []⟩ ∧
    newest .readCapture (sup .readCapture []) 0 = some (.answer, 0, [0, 0, 0, 0, 0]) := by
  unfold State.grants; repeat' apply And.intro
  all_goals decide +kernel

theorem witness_HoldsAreAddedAndLiftedInOrder :
    axle.length = 12 ∧ (asked untested .holdFile (axle ++ [15])).grants .holdFile 0 ⟨7, .holdFile, axle ++ [15]⟩ ∧
    (asked untested .holdFile (axle ++ [15])).find axle = some 0 ∧
    newest (.holdFile []) (asked untested .holdFile (axle ++ [0])) 0 = some (.answer, 4, []) ∧
    newest (.holdFile []) (asked untested .holdFile (axle ++ [16])) 0 = some (.answer, 4, []) ∧
    newest (.holdFile []) (sup .holdFile (axle ++ [1])) 0 = some (.answer, 5, []) ∧
    newest (.holdFile []) (asked (fileOf [1, 2, 3, 4] none) .holdFile (axle ++ [4])) 0 = some (.answer, 0, []) ∧
    newest (.holdFile []) (asked (fileOf [1, 2, 3, 4] none) .holdFile (axle ++ [5])) 0 = some (.answer, 7, []) ∧
    ((after (.holdFile []) (asked untested .holdFile (axle ++ [15]))).file 0).map (fun f => (f.holds, f.verdict)) =
      some ([15], .hold) ∧
    (asked (fileOf [3, 1, 2] (runinIs fresh)) .liftHold (axle ++ [1])).grants .liftHold 0 ⟨7, .liftHold, axle ++ [1]⟩ ∧
    ((after (.liftHold []) (asked (fileOf [3, 1, 2] (runinIs fresh)) .liftHold (axle ++ [1]))).file 0).map
      (fun f => (f.holds, f.verdict)) = some ([3, 2], .hold) ∧
    newest (.liftHold []) (asked untested .liftHold (axle ++ [1])) 0 = some (.answer, 12, []) ∧
    newest (.liftHold []) (asked untested .liftHold (axle ++ [16])) 0 = some (.answer, 4, []) := by
  unfold State.grants; repeat' apply And.intro
  all_goals decide +kernel

/-- A file whose run-in stage FAILED after so many reopens. -/
def failedFile (reopens : Nat) : FileRec := fileOf [] (runinIs (stage .failed none 2 reopens))

theorem witness_ReopenStageOpensAFailedStageAtMostThreeTimes :
    (asked (failedFile 2) .reopenStage (axle ++ [1])).grants .reopenStage 0 ⟨7, .reopenStage, axle ++ [1]⟩ ∧
    newest (.reopenStage []) (asked (failedFile 2) .reopenStage (axle ++ [0])) 0 = some (.answer, 4, []) ∧
    newest (.reopenStage []) (asked (failedFile 2) .reopenStage (axle ++ [4])) 0 = some (.answer, 4, []) ∧
    newest (.reopenStage []) (sup .reopenStage (axle ++ [1])) 0 = some (.answer, 5, []) ∧
    newest (.reopenStage []) (asked (fileOf [] none) .reopenStage (axle ++ [1])) 0 = some (.answer, 11, []) ∧
    newest (.reopenStage []) (asked untested .reopenStage (axle ++ [1])) 0 = some (.answer, 12, []) ∧
    newest (.reopenStage []) (asked (failedFile 3) .reopenStage (axle ++ [1])) 0 = some (.answer, 17, []) ∧
    ((after (.reopenStage []) (asked (failedFile 2) .reopenStage (axle ++ [1]))).file 0).map
      (fun f => (f.verdict, f.records.map fun rs => rs.runin)) = some (.pending, some (stage .opened none 0 3)) := by
  unfold State.grants; repeat' apply And.intro
  all_goals decide +kernel
theorem witness_TheVerdictFollowsItsTableAndNoticesItsChanges :
    (fileOf [1] (runinIs fresh)).verdict = .hold ∧ (fileOf [] none).verdict = .hold ∧
    (fileOf [] (runinIs (stage .failed none 2 0))).verdict = .rework ∧ untested.verdict = .pending ∧
    (fileOf [] (some ⟨stage .passed none 1 0, stage .waived none 0 0, stage .waived none 0 0⟩)).verdict = .pass ∧
    (live { untested with verdict := .pass }).file 0 = some { untested with verdict := .pass } ∧
    (((live { untested with verdict := .pass }).recompute 0).port 0).tx = [⟨.notice, 0, 1, axle ++ [1]⟩] ∧
    (live untested).recompute 0 = live untested := by decide +kernel

/-- A file whose run-in stage is RUNNING. -/
def inTest : FileRec := fileOf [] (runinIs (stage .running (some .ra) 1 0))

theorem witness_ReleaseReportsAndRetiresOrAnswersAStray :
    (asked inTest .release axle).grants .release 0 ⟨7, .release, axle⟩ ∧
    (asked inTest .release axle).find (field axle 0 12) = some 0 ∧ inTest.activeStage.isSome = true ∧
    newest (.release []) (asked inTest .release axle) 0 = some (.answer, 19, []) ∧ untested.activeStage = none ∧
    (after (.release []) (asked untested .release axle)).file 0 = none ∧
    ((after (.release []) (asked untested .release axle)).bank 2).users = 0 ∧
    (sup .release axle).grants .release 0 ⟨7, .release, axle⟩ ∧ (sup .release axle).find axle = none ∧
    (sup .release axle).engine.strayEnabled = true ∧
    newest (.release []) (sup .release axle) 0 = some (.answer, 0, strayReport axle) ∧
    newest (.release [])
      ({ sup .release axle with engine := { (sup .release axle).engine with strayEnabled := false } } : State) 0 =
        some (.answer, 5, []) := by
  unfold State.grants; repeat' apply And.intro
  all_goals decide +kernel

/-- A file whose stages have ended, each with its summary, with four hold reasons. -/
def tested : FileRec :=
  fileOf [15, 0, 1, 2] (some
    ⟨⟨.passed, 15, 15, none, some ⟨.pass, .none, some (.runin 8000 (-400) 600 12)⟩⟩,
      ⟨.failed, 2, 1, none, some ⟨.fail, .band, some (.noise 100 70000 (some ⟨63, .coast, 16777216⟩))⟩⟩,
      ⟨.opened, 1, 0, none, some ⟨.cutShort, .forced, none⟩⟩⟩)

theorem witness_TheReportIsFormedFromTheStoredVerdict :
    untested.serial.length = 12 ∧ (untested.report 0).length = 63 ∧ (untested.report 0).getD 19 0 = 5 ∧
    tested.serial.length = 12 ∧ (∀ rs ∈ tested.records, ∀ t ∈ allStages, ∀ e ∈ (rs.get t).last, ∀ x ∈ e.summary,
      x.stage = t) ∧ tested.holds.length ≤ 4 ∧ (∀ r ∈ tested.holds, r ≤ 15) ∧
    tested.report 3 = axle ++ [0, 0, 0, 5, 0, 1, 2, 5, 0, 3, 4, 0xF0, 0x12] ++
      [4, 0, 0xFF, 64, 31, 64, 254, 112, 2, 88, 12] ++
      [5, 0, 0x12, 137, 0, 0, 100, 1, 17, 112, 63, 2, 1, 0, 0, 0] ++ [1, 0, 1, 213, 0, 0, 0, 0, 0, 0, 0] ∧
    blockOf .noise (some ⟨.passed, 1, 0, none, some ⟨.pass, .none, some (.noise 1 2 none)⟩⟩) =
      [4, 0, 1, 64, 0, 0, 1, 0, 0, 2, 0, 0, 0, 0, 0, 0] ∧
    blockOf .leak (some ⟨.failed, 1, 2, none, some ⟨.fail, .decay, some (.leak 9999999 5 true)⟩⟩) =
      [5, 0, 33, 142, 152, 150, 127, 0, 0, 5, 1] ∧
    blockOf .leak (some (stage .running (some .lb) 1 0)) = [3, 5, 1, 0, 0, 0, 0, 0, 0, 0, 0] ∧
    blockOf .noise none = List.replicate 16 0 ∧ ((fileOf [] none).report 0).getD 20 0 = 1 ∧
    ((fileOf [] none).report 0).drop 25 = List.replicate 38 0 ∧ (strayReport axle).length = 63 := by decide +kernel
theorem witness_ForceRetireEndsTheClaimAndRetiresTheFile :
    (asks (running (queued 0 0)) 0 .forceRetire axle).grants .forceRetire 0 ⟨7, .forceRetire, axle⟩ ∧
    newest (.forceRetire []) (sup .forceRetire axle) 0 = some (.answer, 5, []) ∧
    (running (queued 0 0)).find (field axle 0 12) = some 0 ∧ ((running (queued 0 0)).file 0).isSome = true ∧
    (running (queued 0 0)).boundTo h0 = some .ra ∧ (live untested).boundTo h0 = none ∧
    newest (.forceRetire []) (asks (running (queued 0 0)) 0 .forceRetire axle) 3 =
      some (.directive, 4, [0, 0, 1, 3, 21]) ∧
    ((after (.forceRetire []) (asks (running (queued 0 0)) 0 .forceRetire axle)).slot 0) = ⟨1, none, []⟩ := by
  unfold State.grants; repeat' apply And.intro
  all_goals decide +kernel
theorem witness_SwitchesSchemeAndPrioritiesAreReplaced :
    (sup .setStray [0]).grants .setStray 0 ⟨7, .setStray, [0]⟩ ∧
    newest .setStray (sup .setStray [0]) 0 = some (.answer, 0, [1]) ∧
    newest .setStray (sup .setStray [2]) 0 = some (.answer, 4, []) ∧
    (sup .setMulti [1]).grants .setMulti 0 ⟨7, .setMulti, [1]⟩ ∧
    newest .setMulti (sup .setMulti [1]) 0 = some (.answer, 0, [0]) ∧
    newest .setMulti (sup .setMulti [2]) 0 = some (.answer, 4, []) ∧
    (sup .setArbiter [3]).grants .setArbiter 0 ⟨7, .setArbiter, [3]⟩ ∧
    (after .setArbiter (sup .setArbiter [3])).arbiter.scheme = .portOrder ∧ Scheme.ofByte 4 = none ∧
    newest .setArbiter (sup .setArbiter [4]) 0 = some (.answer, 4, []) ∧
    (sup .setPriority [7, 7]).grants .setPriority 0 ⟨7, .setPriority, [7, 7]⟩ ∧
    (after .setPriority (sup .setPriority [7, 7])).priority 7 = 7 ∧
    newest .setPriority (sup .setPriority [8, 0]) 0 = some (.answer, 4, []) ∧
    newest .setPriority (sup .setPriority [0, 8]) 0 = some (.answer, 4, []) := by
  unfold State.grants; repeat' apply And.intro
  all_goals decide +kernel

/-! ## The recipe store -/

/-- Bank 2 in a state, with users and contents, and a cursor, with a request at port 0. -/
def banked (k : Bank) (cur : Option Cursor) (r : Request) (payload : List Byte) : State :=
  let s := sup r payload
  { s with store := { s.store with banks := s.store.banks.set 2 k, cursor := cur } }

/-- A cursor at the first BANDS entry of bank 2. -/
def bandsCursor (d : Direction) (index : Nat) (staging : List Word) : Cursor := ⟨2, .bands, index, d, staging, 0⟩

theorem witness_BanksAreOpenedAndDiscardedByTheirState :
    (banked .empty none .openBank [2]).grants .openBank 0 ⟨7, .openBank, [2]⟩ ∧
    newest .openBank (banked .empty none .openBank [8]) 0 = some (.answer, 4, []) ∧
    ((after .openBank (banked .empty none .openBank [2])).bank 2).state = .opened ∧
    (⟨.ready 2 1, 0, recipe⟩ : Bank).isReady = true ∧
    (after .openBank (banked ⟨.ready 2 1, 0, recipe⟩ none .openBank [2])).bank 2 = ⟨.opened, 0, recipe⟩ ∧
    newest .openBank (banked ⟨.ready 2 1, 1, recipe⟩ none .openBank [2]) 0 = some (.answer, 18, []) ∧
    newest .openBank (banked ⟨.opened, 0, recipe⟩ none .openBank [2]) 0 = some (.answer, 0, []) ∧
    (banked .empty none .discardBank [2]).grants .discardBank 0 ⟨7, .discardBank, [2]⟩ ∧
    newest .discardBank (banked .empty none .discardBank [8]) 0 = some (.answer, 4, []) ∧
    newest .discardBank (banked .empty none .discardBank [2]) 0 = some (.answer, 0, []) ∧
    newest .discardBank (banked ⟨.ready 2 1, 1, recipe⟩ none .discardBank [2]) 0 = some (.answer, 18, []) ∧
    (after .discardBank (banked ⟨.opened, 0, recipe⟩ none .discardBank [2])).bank 2 = .empty ∧
    (after .discardBank (banked ⟨.opened, 0, recipe⟩ (some (bandsCursor .write 0 (row [1]))) .discardBank
      [2])).store.cursor = some (bandsCursor .write 0 []) ∧
    (after .discardBank (banked ⟨.opened, 0, recipe⟩ (some (bandsCursor .read 15 (row [1, 2, 3]))) .discardBank
      [2])).store.cursor = some (bandsCursor .read 15 (row [0, 0, 0])) ∧
    (after .discardBank (banked ⟨.ready 2 1, 0, recipe⟩ (some (bandsCursor .read 16 [])) .discardBank
      [2])).store.cursor = some (bandsCursor .read 16 []) := by
  unfold State.grants; repeat' apply And.intro
  all_goals decide +kernel
theorem witness_PublishMakesAValidBankReady :
    (banked ⟨.opened, 0, recipe⟩ none .publishBank [2]).grants .publishBank 0 ⟨7, .publishBank, [2]⟩ ∧
    newest .publishBank (banked ⟨.opened, 0, recipe⟩ none .publishBank [8]) 0 = some (.answer, 4, []) ∧
    newest .publishBank (banked .empty none .publishBank [2]) 0 = some (.answer, 12, []) ∧
    newest .publishBank (banked ⟨.opened, 0, recipe⟩ (some (bandsCursor .write 0 (row [1]))) .publishBank [2]) 0 =
      some (.answer, 12, []) ∧
    newest .publishBank (banked ⟨.opened, 0, recipe⟩ (some (bandsCursor .write 0 [])) .publishBank [2]) 0 =
      some (.answer, 0, [2, 1]) ∧
    newest .publishBank (banked ⟨.opened, 0, recipe.setEntry .steps 1 (row [2, 0, 0, 0, 0, 0, 1, 1, 1, 0])⟩ none
      .publishBank [2]) 0 = some (.answer, 3, [1, 1]) ∧
    ((after .publishBank (banked ⟨.opened, 0, recipe⟩ none .publishBank [2])).bank 2).state = .ready 2 1 := by
  unfold State.grants; repeat' apply And.intro
  all_goals decide +kernel
theorem witness_ValidContentsLieWithinTheirRanges :
    recipe.firstBad = none ∧ recipe.requires .runin = true ∧ recipe.requires .noise = true ∧
    recipe.requires .leak = true ∧ recipe.countSteps = 2 ∧ recipe.countBands = 1 ∧
    (recipe.setEntry .bands 1 (row [8, 0, 0])).firstBad = some (.bands, 1) ∧
    (recipe.setEntry .general 0 (row [8, 2, 2, 2, 513, 600, 600, 600])).firstBad = some (.general, 0) ∧
    (recipe.setEntry .steps 1 (row [2, 0, 0, 0, 0, 0, 1, 1, 1, 0])).firstBad = some (.steps, 1) ∧
    ((recipe.setEntry .steps 1 (row [2, 0, 0, 0, 0, 0, 1, 1, 1, 0])).setEntry .leak 0
      (row (List.replicate 10 0))).firstBad = some (.steps, 1) ∧
    (recipe.setEntry .leak 0 (row (List.replicate 10 0))).firstBad = some (.leak, 0) ∧
    (Contents.zero).firstBad = none := by decide +kernel

/-- Contents whose words differ from one another, whatever their ranges. -/
def marked : Contents :=
  ((((Contents.zero.setEntry .general 0 (row [5, 11, 12, 13, 3 + 14 * 256 + 15 * 65536, 16, 17, 18])).setEntry .steps 1
    (row [1, 2, 3, 4, 4294967291, 4294967295, 7, 8, 9 + 10 * 65536, 11])).setEntry .noise 0
    (row [1, 2, 3, 4, 5, 6, 7, 8, 9, 10])).setEntry .bands 15 (row [63, 2, 3])).setEntry .leak 0
    (row [1, 2, 3, 4, 5, 6, 7, 8, 9, 10])

theorem test_fields_are_read_from_their_words :
    marked.requires .runin = true ∧ marked.requires .noise = false ∧ marked.requires .leak = true ∧
    marked.retryLimit .noise = 12 ∧ marked.claimCode = 3 ∧ marked.persistence = 14 ∧ marked.invalidLimit = 15 ∧
    marked.stageLimitMs .leak = 18000 ∧ marked.step 2 = ⟨1, 2, 3, 4, -5, -1, 7, 8, 9, 10, 11⟩ ∧
    marked.noiseFields = ⟨1, 2, 3, 4, 5, 6, 7, 8, 9, 10⟩ ∧ bandFieldsOf (marked.entry .bands 15) = ⟨63, 2, 3⟩ ∧
    marked.leakFields = ⟨1, 2, 3, 4, 5, 6, 7, 8, 9⟩ ∧ marked.countSteps = 0 ∧ 2 < (recipe.table .steps).length ∧
    1 < (recipe.table .bands).length ∧
    ((⟨.ready 12 16, 0, marked⟩ : Bank).bands.getD 15 ⟨0, 0, 0⟩) = ⟨63, 2, 3⟩ ∧ 16 ≤ (marked.table .bands).length ∧
    (⟨.ready 2 1, 1, recipe⟩ : Bank).bands = [⟨8, 120, 150⟩] ∧ (⟨.opened, 0, recipe⟩ : Bank).bands = [] := by
  decide +kernel
theorem witness_CursorIsSetOnAnEntry :
    (sup .cursor [7, 3, 15, 0]).grants .cursor 0 ⟨7, .cursor, [7, 3, 15, 0]⟩ ∧
    (after .cursor (sup .cursor [7, 3, 15, 0])).store.cursor = some ⟨7, .bands, 15, .write, [], 0⟩ ∧
    (after .cursor (banked ⟨.opened, 0, recipe⟩ none .cursor [2, 3, 0, 1])).store.cursor =
      some (bandsCursor .read 0 (row [8, 120, 150])) ∧
    newest .cursor (sup .cursor [8, 3, 15, 0]) 0 = some (.answer, 4, []) ∧
    newest .cursor (sup .cursor [7, 5, 0, 0]) 0 = some (.answer, 4, []) ∧
    newest .cursor (sup .cursor [7, 3, 16, 0]) 0 = some (.answer, 4, []) ∧
    newest .cursor (sup .cursor [7, 3, 15, 2]) 0 = some (.answer, 4, []) := by
  unfold State.grants; repeat' apply And.intro
  all_goals decide +kernel

/-- Seven words as a payload. -/
def sevenWords : List Byte := (row [1, 2, 3, 4, 5, 6, 7]).flatMap bytesOfWord

theorem witness_DataFillsTheEntriesAtTheCursorInOrder :
    (banked ⟨.opened, 0, recipe⟩ (some (bandsCursor .write 14 [])) .data sevenWords).grants .data 0
      ⟨7, .data, sevenWords⟩ ∧
    newest .data (banked ⟨.opened, 0, recipe⟩ none .data sevenWords) 0 = some (.answer, 20, []) ∧
    newest .data (banked ⟨.opened, 0, recipe⟩ (some (bandsCursor .read 16 [])) .data sevenWords) 0 =
      some (.answer, 20, []) ∧
    newest .data (banked .empty (some (bandsCursor .write 0 [])) .data sevenWords) 0 = some (.answer, 12, []) ∧
    newest .data (banked ⟨.opened, 0, recipe⟩ (some (bandsCursor .write 14 [])) .data sevenWords) 0 =
      some (.answer, 4, [6, 16]) ∧
    newest .data (banked ⟨.opened, 0, recipe⟩ (some (bandsCursor .write 0 (row [9, 9]))) .data sevenWords) 0 =
      some (.answer, 0, [7, 3]) ∧
    ((after .data (banked ⟨.opened, 0, recipe⟩ (some (bandsCursor .write 14 [])) .data sevenWords)).bank
      2).contents.entry .bands 15 = row [4, 5, 6] ∧
    (bandsCursor .write 15 (row [9, 9])).direction = .write := by
  unfold State.grants; repeat' apply And.intro
  all_goals decide +kernel
theorem witness_CursorAndContentsInOrder :
    recipe.shaped ∧ (bandsCursor .write 15 (row [9, 9])).ok ∧ (bandsCursor .write 16 []).ok ∧
    (bandsCursor .read 15 (row [0, 0, 0])).ok ∧ (bandsCursor .read 16 []).ok := by
  unfold Contents.shaped Cursor.ok; repeat' apply And.intro
  all_goals decide +kernel
theorem witness_ReadDataReturnsTheNextWords :
    (banked ⟨.opened, 0, recipe⟩ (some (bandsCursor .read 0 (row [8, 120, 150]))) .readData [15]).grants .readData 0
      ⟨7, .readData, [15]⟩ ∧
    newest .readData (banked .empty none .readData [0]) 0 = some (.answer, 4, []) ∧
    newest .readData (banked .empty none .readData [16]) 0 = some (.answer, 4, []) ∧
    newest .readData (banked .empty none .readData [1]) 0 = some (.answer, 20, []) ∧
    newest .readData (banked .empty (some (bandsCursor .write 0 [])) .readData [1]) 0 = some (.answer, 20, []) ∧
    newest .readData (banked ⟨.opened, 0, recipe⟩ (some (bandsCursor .read 0 (row [8, 120, 150]))) .readData [4]) 0 =
      some (.answer, 0, (row [8, 120, 150, 0]).flatMap bytesOfWord) ∧
    newest .readData (banked ⟨.opened, 0, recipe⟩ (some (bandsCursor .read 15 (row [0, 0, 0]))) .readData [15]) 0 =
      some (.answer, 4, (row [0, 0, 0]).flatMap bytesOfWord) := by
  unfold State.grants; repeat' apply And.intro
  all_goals decide +kernel

/-- A SET WINDOW payload. -/
def windowBytes (window enable bank : Byte) (base mask : Word) : List Byte :=
  [window, enable] ++ bytesOfWord base ++ bytesOfWord mask ++ [bank]

theorem witness_WindowsAndDefaultAreReplacedWhole :
    (sup .setWindow (windowBytes 7 1 7 4 6)).grants .setWindow 0 ⟨7, .setWindow, windowBytes 7 1 7 4 6⟩ ∧
    (4 : Word) &&& ~~~6 = 0 ∧ (5 : Word) &&& ~~~6 ≠ 0 ∧
    (after .setWindow (sup .setWindow (windowBytes 7 1 7 4 6))).store.windows[7] = ⟨true, 4, 6, 7⟩ ∧
    newest .setWindow (sup .setWindow (windowBytes 7 1 7 5 6)) 0 = some (.answer, 3, []) ∧
    newest .setWindow (sup .setWindow (windowBytes 8 1 7 4 6)) 0 = some (.answer, 4, []) ∧
    newest .setWindow (sup .setWindow (windowBytes 7 2 7 4 6)) 0 = some (.answer, 4, []) ∧
    newest .setWindow (sup .setWindow (windowBytes 7 1 8 4 6)) 0 = some (.answer, 4, []) ∧
    (sup .setDefault [7]).grants .setDefault 0 ⟨7, .setDefault, [7]⟩ ∧
    (after .setDefault (sup .setDefault [7])).store.fallback = some 7 ∧
    (after .setDefault (banked .empty none .setDefault [255])).store.fallback = none ∧
    newest .setDefault (sup .setDefault [8]) 0 = some (.answer, 4, []) ∧
    newest .setDefault (sup .setDefault [254]) 0 = some (.answer, 4, []) := by
  unfold State.grants; repeat' apply And.intro
  all_goals decide +kernel

/-! ## Settings -/

theorem witness_SetAudioReplacesTheConfiguration :
    (sup .setAudio [1, 32, 1, 1, 2, 255, 240]).grants .setAudio 0 ⟨7, .setAudio, [1, 32, 1, 1, 2, 255, 240]⟩ ∧
    (after .setAudio (sup .setAudio [1, 32, 1, 1, 2, 255, 240])).audio =
      ⟨.master, some .w32, .mono, .high, .mean, 255, 240⟩ ∧
    newest .setAudio (sup .setAudio [2, 32, 1, 1, 2, 255, 240]) 0 = some (.answer, 4, []) ∧
    newest .setAudio (sup .setAudio [1, 17, 1, 1, 2, 255, 240]) 0 = some (.answer, 4, []) ∧
    newest .setAudio (sup .setAudio [1, 32, 1, 1, 3, 255, 240]) 0 = some (.answer, 4, []) ∧
    newest .setAudio (sup .setAudio [1, 32, 1, 1, 2, 255, 0]) 0 = some (.answer, 4, []) ∧
    newest .setAudio (sup .setAudio [1, 32, 1, 1, 2, 255, 241]) 0 = some (.answer, 4, []) ∧
    newest .setAudio (sup .setAudio [1, 0, 0, 0, 0, 0, 1]) 0 = some (.answer, 20, []) ∧
    newest .setAudio (asks (hearing .started .cleared) 0 .setAudio [0, 0, 0, 0, 0, 0, 1]) 0 =
      some (.answer, 19, []) := by
  unfold State.grants; repeat' apply And.intro
  all_goals decide +kernel
theorem witness_SetRoleKeepsEachRoleAtOnePort :
    (sup .setRole [7, 7]).grants .setRole 0 ⟨7, .setRole, [7, 7]⟩ ∧
    ((after .setRole (sup .setRole [7, 7])).port 7).role = .leakB ∧
    newest .setRole (sup .setRole [0, 1]) 0 = some (.answer, 4, []) ∧
    newest .setRole (sup .setRole [8, 1]) 0 = some (.answer, 4, []) ∧
    newest .setRole (sup .setRole [1, 8]) 0 = some (.answer, 4, []) ∧
    newest .setRole (asks (running (queued 0 0)) 0 .setRole [3, 0]) 0 = some (.answer, 19, []) ∧
    newest .setRole (asks (station .reset 1 .entry) 0 .setRole [2, 1]) 0 = some (.answer, 18, []) ∧
    newest .setRole (asks (station .reset 1 .entry) 0 .setRole [1, 1]) 0 = some (.answer, 0, []) ∧
    newest .setRole (asks (station .reset 1 .entry) 0 .setRole [1, 0]) 0 = some (.answer, 0, []) := by
  unfold State.grants; repeat' apply And.intro
  all_goals decide +kernel
theorem witness_StatusAndCaptureReportAndClearAndNoticesAreRouted :
    (sup .status []).grants .status 0 ⟨7, .status, []⟩ ∧
    newest .status (sup .status []) 0 = some (.answer, 0, List.replicate 25 0 ++ [1, 1, 1, 1, 15]) ∧
    (after .status (asks ((assembling []).setGarbled 1) 0 .status [])).port 1 = (assembling []).port 1 ∧
    (sup .clearCapture []).grants .clearCapture 0 ⟨7, .clearCapture, []⟩ ∧
    newest .clearCapture (sup .clearCapture []) 0 = some (.answer, 0, [0, 0, 0, 0, 0]) ∧
    captureBytes (some ⟨.correctable, 47, 255, .lapsePosting⟩) = [1, 1, 47, 255, 65] ∧
    captureBytes (some ⟨.uncorrectable, 0, 1, .request .cellReset⟩) = [1, 2, 0, 1, 31] ∧
    (sup .setRoute [4, 255]).grants .setRoute 0 ⟨7, .setRoute, [4, 255]⟩ ∧
    (after .setRoute (sup .setRoute [4, 255])).router.stray = ⟨255, true⟩ ∧
    newest .setRoute (sup .setRoute [0, 1]) 0 = some (.answer, 4, []) ∧
    newest .setRoute (sup .setRoute [5, 1]) 0 = some (.answer, 4, []) ∧
    (sup .enableClear [15]).grants .enableClear 0 ⟨7, .enableClear, [15]⟩ ∧
    (after .enableClear (sup .enableClear [15])).router.enables = 0 ∧
    newest .enableClear (sup .enableClear [16]) 0 = some (.answer, 4, []) ∧
    (sup .enableSet [1]).grants .enableSet 0 ⟨7, .enableSet, [1]⟩ ∧
    (after .enableSet (sup .enableSet [1])).router.enables = 15 := by
  unfold State.grants; repeat' apply And.intro
  all_goals decide +kernel

/-! ## Claims and channels -/

/-- A station asks CLAIM for the axle's stage. -/
def claiming (f : FileRec) (p : PortId) (role : Role) (t : Byte) : State :=
  asks (station (live f) p role) p .claim (axle ++ [t])

theorem witness_ClaimReservesTheStageForTheChannel :
    (claiming untested 3 .runinA 1).grants .claim 3 ⟨7, .claim, axle ++ [1]⟩ ∧ axle.length = 12 ∧
    ((claiming untested 3 .runinA 1).port 3).role = ChannelId.ra.role ∧ ChannelId.ra.stage = .runin ∧
    (claiming untested 3 .runinA 1).find axle = some 0 ∧ (claiming untested 3 .runinA 1).file 0 = some untested ∧
    untested.records = runinIs fresh ∧ untested.holds = [] ∧ fresh.state = .opened ∧
    ((claiming untested 3 .runinA 1).chan .ra).state = .idle ∧
    newest (.claim []) (claiming untested 3 .runinA 1) 3 =
      some (.answer, 0, [0, 0] ++ (recipe.step 1).bytes) ∧
    (after (.claim []) (claiming untested 3 .runinA 1)).chan .ra = ⟨.claimed, some ⟨h0, .runin⟩, some 5000, none⟩ ∧
    newest (.claim []) (claiming (fileOf [] (runinIs (stage .passed none 1 0))) 5 .noise 2) 5 =
      some (.answer, 0, [0, 0, 3, 132]) := by
  unfold State.grants; repeat' apply And.intro
  all_goals decide +kernel
theorem witness_ClaimIsRefusedByTheFirstFailingCheck :
    (claiming untested 3 .runinA 0).grants .claim 3 ⟨7, .claim, axle ++ [0]⟩ ∧
    newest (.claim []) (claiming untested 3 .runinA 0) 3 = some (.answer, 4, []) ∧
    newest (.claim []) (claiming untested 3 .runinA 4) 3 = some (.answer, 4, []) ∧
    newest (.claim []) (claiming untested 3 .runinA 2) 3 = some (.answer, 2, []) ∧
    newest (.claim []) (asks (station .reset 3 .runinA) 3 .claim (axle ++ [1])) 3 = some (.answer, 5, []) ∧
    newest (.claim []) (claiming (fileOf [] none) 3 .runinA 1) 3 = some (.answer, 11, []) ∧
    newest (.claim [wrong 1 true]) (claiming untested 3 .runinA 1) 3 = some (.answer, 11, []) ∧
    newest (.claim []) (claiming (fileOf [1] (runinIs fresh)) 3 .runinA 1) 3 = some (.answer, 10, []) ∧
    newest (.claim []) (claiming (failedFile 0) 3 .runinA 1) 3 = some (.answer, 12, []) ∧
    newest (.claim []) (claiming inTest 6 .leakA 3) 6 = some (.answer, 13, []) ∧
    newest (.claim []) (claiming untested 5 .noise 2) 5 = some (.answer, 14, []) ∧
    newest (.claim []) (bound (claiming untested 3 .runinA 1) .ra .claimed (some 5000) none) 3 =
      some (.answer, 15, []) := by
  unfold State.grants; repeat' apply And.intro
  all_goals decide +kernel

/-- The axle's run-in stage CLAIMED by RA, and port 3 holding a request. -/
def claimed (r : Request) (payload : List Byte) : State :=
  asks (bound (station (live (fileOf [] (runinIs (stage .claimed (some .ra) 0 0)))) 3 .runinA) .ra .claimed (some 5000)
    none) 3 r payload

theorem witness_StartBeginsTheClaimedStageAndSetsUpItsAnalyzer :
    (claimed .start [0, 0]).grants .start 3 ⟨7, .start, [0, 0]⟩ ∧
    ((claimed .start [0, 0]).port 3).role = ChannelId.ra.role ∧ ((claimed .start [0, 0]).fileAt h0).isSome = true ∧
    (claimed .start [0, 0]).chan .ra = ⟨.claimed, some ⟨h0, .runin⟩, some 5000, none⟩ ∧
    (after (.start []) (claimed .start [0, 0])).chan .ra = ⟨.running, some ⟨h0, .runin⟩, none, some 600000⟩ ∧
    (after (.start []) (claimed .start [0, 0])).monitors.a = .started (recipe.step 1) ∧
    newest (.start []) (sup .start [0, 0]) 0 = some (.answer, 2, []) ∧
    newest (.start []) (claimed .start [48, 0]) 3 = some (.answer, 4, []) ∧
    newest (.start []) (claimed .start [0, 1]) 3 = some (.answer, 9 + 7, []) ∧
    newest (.start []) (claimed .start [47, 0]) 3 = some (.answer, 16, []) ∧
    newest (.start []) (asks (running (queued 0 0)) 3 .start [0, 0]) 3 = some (.answer, 12, []) ∧
    recipe.noiseFields.settle = 1 ∧ (recipe.step 1).settleMs = 0 ∧ (recipe.step 2).settleMs = 100 ∧
    ((hearing .stopped .cleared).startAnalyzer .n).noise.phase = some .settling ∧
    ((leaking .cleared).startAnalyzer .la).leaks.a.fillTimer = some 20000 := by
  unfold State.grants; repeat' apply And.intro
  all_goals decide +kernel
theorem witness_EndsAndExpiriesMakeTheirPostings :
    ((running (queued 0 0)).chan .ra).binding = some ⟨h0, .runin⟩ ∧ (running (queued 0 0)).portOf .ra = some 3 ∧
    ((running (queued 0 0)).endStage .ra ⟨.cutShort, .station, none⟩).arbiter.postings =
      [⟨.ra, h0, .runin, .ended ⟨.cutShort, .station, none⟩⟩] ∧
    (claimed .start []).resetLow = false ∧
    (claimed .start []).chan .ra = ⟨.claimed, some ⟨h0, .runin⟩, some 5000, none⟩ ∧
    (claimed .start []).clearAnalyzer .ra = claimed .start [] ∧
    (after (.claimStartExpiry .ra) (claimed .start [])).arbiter.postings = [⟨.ra, h0, .runin, .lapse⟩] ∧
    (running (queued 0 0)).chan .ra = ⟨.running, some ⟨h0, .runin⟩, none, some 600000⟩ ∧
    newest (.stageTimeLimitExpiry .ra) (running (queued 0 0)) 3 = some (.directive, 4, [0, 0, 1, 3, 18]) ∧
    (State.reset.chan .ra).claimTimer = none ∧ after (.claimStartExpiry .ra) .reset = .reset ∧
    (State.reset.chan .ra).stageTimer = none ∧ after (.stageTimeLimitExpiry .ra) .reset = .reset := by
  repeat' apply And.intro
  all_goals decide +kernel
theorem witness_AbandonEndsAndResultReadsTheStage :
    (claimed .abandon [0, 0]).grants .abandon 3 ⟨7, .abandon, [0, 0]⟩ ∧
    newest (.abandon []) (claimed .abandon [0, 0]) 3 = some (.answer, 0, []) ∧
    ((after (.abandon []) (claimed .abandon [0, 0])).port 3).tx.length = 2 ∧
    newest (.abandon []) (sup .abandon [0, 0]) 0 = some (.answer, 2, []) ∧
    newest (.abandon []) (claimed .abandon [0, 1]) 3 = some (.answer, 16, []) ∧
    newest (.abandon []) (claimed .abandon [48, 0]) 3 = some (.answer, 4, []) ∧
    newest (.abandon []) (claimed .abandon [255, 0]) 3 = some (.answer, 4, []) ∧
    newest (.abandon []) (claimed .abandon [47, 0]) 3 = some (.answer, 16, []) ∧
    newest (.abandon []) (asks (bound (claimed .abandon [0, 0]) .ra .ending none none) 3 .abandon [0, 0]) 3 =
      some (.answer, 12, []) ∧
    newest (.abandon []) (asks (station (live untested) 3 .runinA) 3 .abandon [0, 0]) 3 = some (.answer, 12, []) ∧
    (claimed .result [0, 0, 1]).grants .result 3 ⟨7, .result, [0, 0, 1]⟩ ∧
    newest (.result []) (claimed .result [0, 0, 1]) 3 =
      some (.answer, 0, [0, 0, 0, 2, 1, 0, 0, 0, 0, 0, 0, 0, 0, 0]) ∧
    newest (.result []) (claimed .result [0, 0, 0]) 3 = some (.answer, 4, []) ∧
    newest (.result []) (claimed .result [0, 0, 2]) 3 = some (.answer, 2, []) ∧
    newest (.result []) (claimed .result [0, 1, 1]) 3 = some (.answer, 16, []) ∧
    newest (.result []) (claimed .result [48, 0, 1]) 3 = some (.answer, 4, []) ∧
    (newest (.result []) (asked untested .result [0, 0, 2]) 0).map (fun x => (x.2.1, x.2.2.length)) = some (0, 19) := by
  unfold State.grants; repeat' apply And.intro
  all_goals decide +kernel

/-- The axle's run-in stage RUNNING for the nth time, RA ENDING, its posting waiting. -/
def ending (x : StageState) (attempts : Nat) (kind : PostingKind) : State :=
  let s := bound (station (live (fileOf [] (runinIs (stage x (some .ra) attempts 0)))) 3 .runinA) .ra .ending none none
  { s with arbiter := { s.arbiter with postings := [⟨.ra, h0, .runin, kind⟩] } }

/-- The run-in stage record of slot 0. -/
def runinOf (s : State) : Option StageRecord := ((s.file 0).bind (·.records)).map (·.runin)

theorem witness_PostingsAreAppliedToTheirStages :
    (ending .running 1 (.ended ⟨.fail, .speed, none⟩)).resetLow = false ∧
    (ending .running 1 (.ended ⟨.fail, .speed, none⟩)).chan .ra = ⟨.ending, some ⟨h0, .runin⟩, none, none⟩ ∧
    ((ending .running 1 (.ended ⟨.fail, .speed, none⟩)).fileAt h0).isSome = true ∧
    (runinOf (after (.endPostingApplied []) (ending .running 1 (.ended ⟨.fail, .speed, none⟩)))).map (·.state) =
      some .opened ∧
    (runinOf (after (.endPostingApplied []) (ending .running 2 (.ended ⟨.fail, .speed, none⟩)))).map (·.state) =
      some .failed ∧
    (runinOf (after (.endPostingApplied []) (ending .running 2 (.ended ⟨.pass, .none, none⟩)))).map (·.state) =
      some .passed ∧
    ((after (.endPostingApplied [wrong 1 true]) (ending .running 1 (.ended ⟨.pass, .none, none⟩))).chan .ra).state =
      .idle ∧
    ((after (.endPostingApplied [wrong 1 true]) (ending .running 1 (.ended ⟨.pass, .none, none⟩))).file 0).map
      (·.damaged) = some true ∧
    ((ending .running 1 (.ended ⟨.pass, .none, none⟩)).setSlot 0 ⟨1, none, []⟩).fileAt h0 = none ∧
    ((after (.endPostingApplied []) ((ending .running 1 (.ended ⟨.pass, .none, none⟩)).setSlot 0 ⟨1, none, []⟩)).chan
      .ra).state = .idle ∧
    runinOf (after (.lapsePostingApplied []) (ending .claimed 1 .lapse)) = some (stage .opened none 1 0) ∧
    newest (.lapsePostingApplied []) (ending .claimed 1 .lapse) 0 = some (.notice, 2, axle ++ [1]) ∧
    ((ending .claimed 1 .lapse).setSlot 0 ⟨1, none, []⟩).fileAt h0 = none ∧
    ((after (.lapsePostingApplied []) ((ending .claimed 1 .lapse).setSlot 0 ⟨1, none, []⟩)).chan .ra).state = .idle ∧
    ((after (.lapsePostingApplied []) ((ending .claimed 1 .lapse).setSlot 0 ⟨1, none, []⟩)).port 0).tx = [] := by
  repeat' apply And.intro
  all_goals decide +kernel
/-- Channel RA RUNNING on a damaged file. -/
def runningDamaged : State :=
  bound (station (live { fileOf [] none with verdict := .pending }) 3 .runinA) .ra .running none (some 600000)

theorem witness_AnEngineSideEndFreesTheChannel :
    ((running (queued 0 0)).chan .ra).binding = some ⟨h0, .runin⟩ ∧ (running (queued 0 0)).fileAt h0 = some inTest ∧
    inTest.records = runinIs (stage .running (some .ra) 1 0) ∧ (running (queued 0 0)).portOf .ra = some 3 ∧
    runinOf ((running (queued 0 0)).engineEnd .ra .reset) =
      some ⟨.opened, 1, 0, none, some ⟨.cutShort, .reset, none⟩⟩ ∧
    (runningDamaged.fileAt h0).isSome = true ∧
    (runningDamaged.engineEnd .ra .damaged).file 0 = some (fileOf [] none) ∧
    ((runningDamaged.engineEnd .ra .damaged).chan .ra).state = .idle := by
  decide +kernel

/-- The words of a record in error one after another: a single bit, two bits, another single bit, the last lasting. -/
def threeWrong : Disturbances :=
  [⟨0, ⟨4, 0x11, false, true⟩⟩, ⟨0, ⟨2, 0x22, true, false⟩⟩, ⟨0, ⟨0, 0x33, false, false⟩⟩]

/-- The frames a port holds: kind, code and the bytes of the payload from the given one on. -/
def frames (s : State) (p : PortId) (from_ : Nat) : List (FrameKind × Nat × List Byte) :=
  (s.port p).tx.map fun f => (f.kind, f.code.toNat, f.payload.drop from_)

theorem witness_AReadFindsErrorsAndCapturesTheFirst :
    (live untested).file 0 = some untested ∧ (live (fileOf [] none)).file 0 = some (fileOf [] none) ∧
    (((live untested).disturb threeWrong).slot 0).errors.map (·.syndrome) = [0x33, 0x22, 0x11] ∧
    (((live untested).disturb [⟨0, ⟨4, 5, false, false⟩⟩, ⟨0, ⟨4, 6, true, false⟩⟩]).slot 0).errors =
      [⟨4, 6, true, false⟩] ∧
    ((live untested).disturb threeWrong).file 0 = some untested ∧
    (live untested).readFile (.request .lookup) 0 = live untested ∧
    ((live (fileOf [] none)).disturb threeWrong).readFile (.request .lookup) 0 =
      (live (fileOf [] none)).disturb threeWrong ∧
    (((live untested).disturb [wrong 5 false]).readFile (.request .lookup) 0).router.capture =
      some ⟨.correctable, 0, 5, .request .lookup⟩ ∧
    ((((live untested).disturb [⟨0, ⟨4, 0x11, false, true⟩⟩, wrong 5 false]).readFile (.request .lookup) 0).slot
      0).errors = [⟨4, 0x11, false, true⟩] ∧
    (((live untested).disturb threeWrong).readFile .endPosting 0).router.capture =
      some ⟨.uncorrectable, 0, 0x22, .endPosting⟩ ∧
    (live untested).boundTo h0 = none ∧ (running (queued 0 0)).boundTo h0 = some .ra ∧
    (running (queued 0 0)).router.multi = false ∧ (running (queued 0 0)).router.capture = none ∧
    ((((running (queued 0 0)).disturb threeWrong).readFile .endPosting 0).chan .ra).state = .idle ∧
    ((((running (queued 0 0)).disturb threeWrong).readFile .endPosting 0).slot 0).errors = [] ∧
    frames (((running (queued 0 0)).disturb threeWrong).readFile .endPosting 0) 0 12 =
      [(.notice, 3, [2]), (.notice, 1, [4])] ∧
    frames (((station (running (queued 0 0)) 0 .runinA).disturb threeWrong).readFile .endPosting 0) 0 3 =
      [(.notice, 3, List.replicate 9 0 ++ [2]), (.directive, 4, [3, 20]), (.notice, 1, axle.drop 3 ++ [4])] := by
  repeat' apply And.intro
  all_goals decide +kernel
/-- R178: an error waits in its record for the next read of that file, whatever reads others; retirement drops it, and a
damaged file's record is not read. -/
theorem test_an_error_waits_for_its_read :
    (((after (.list [wrong 5 true]) (asked untested .list [1])).slot 0).errors.length,
      ((after (.list [wrong 5 true]) (asked untested .list [0])).slot 0).errors.length,
      ((after (.release [wrong 5 false]) (asked untested .release axle)).slot 0).errors.length) = (1, 0, 0) := by
  decide +kernel

/-! ## Run-in monitor -/

/-- A RUNNING run-in monitor in step 1 with one reading queued. -/
def taking (r : RunInReading) (window : Bool) (mismatch invalid : Nat) (b : Breaches) : State :=
  running { Monitor.started (recipe.step 1) with
    queue := [r], windowOpen := window, mismatch := mismatch, invalid := .all invalid, breach := b }

theorem witness_ARunInReadingIsSortedCountedAndJudged :
    (taking good false 0 0 ⟨0, 0, 0, 0⟩).resetLow = false ∧
    ((taking good false 0 0 ⟨0, 0, 0, 0⟩).chan .ra).state = .running ∧
    ((taking good false 0 0 ⟨0, 0, 0, 0⟩).monitor .a).queue = good :: [] ∧
    ((taking good false 0 0 ⟨0, 0, 0, 0⟩).bankOf .ra).contents.persistence = 2 ∧
    (after (.runinReadingTaken .a) (taking { good with tag := 2 } true 1 0 ⟨0, 0, 0, 0⟩)).monitors.a.mismatch = 1 ∧
    (after (.runinReadingTaken .a) (taking { good with tag := 2 } false 0 0 ⟨0, 0, 0, 0⟩)).monitors.a.mismatch = 1 ∧
    newest (.runinReadingTaken .a) (taking { good with tag := 2 } false 1 0 ⟨0, 0, 0, 0⟩) 3 =
      some (.directive, 4, [0, 0, 1, 3, 7]) ∧
    newest (.runinReadingTaken .a) (taking ⟨1, .all none⟩ false 0 2 ⟨0, 0, 0, 0⟩) 3 =
      some (.directive, 4, [0, 0, 1, 3, 5]) ∧
    (after (.runinReadingTaken .a) (taking ⟨1, .all none⟩ true 0 1 ⟨0, 0, 0, 0⟩)).monitors.a.invalid = .all 2 ∧
    (after (.runinReadingTaken .a) (taking good true 0 0 ⟨0, 0, 0, 0⟩)).monitors.a.checked = false ∧
    (after (.runinReadingTaken .a) (taking good false 0 0 ⟨0, 0, 0, 0⟩)).monitors.a.peakTorque = some 8000 ∧
    (after (.runinReadingTaken .a) (taking { good with values := { good.values with speed := some 1261 } } false 0 0
      ⟨0, 0, 0, 0⟩)).monitors.a.breach = ⟨1, 0, 0, 0⟩ ∧
    newest (.runinReadingTaken .a) (taking { good with values := { good.values with speed := some 1261 } } false 0 0
      ⟨1, 0, 0, 0⟩) 3 = some (.directive, 4, [0, 0, 1, 2, 2]) ∧
    newest (.runinReadingTaken .a) (taking { good with values := { good.values with torque := some 6999 } } false 0 0
      ⟨0, 1, 0, 0⟩) 3 = some (.directive, 4, [0, 0, 1, 2, 1]) := by
  repeat' apply And.intro
  all_goals decide +kernel

/-- A RUNNING run-in monitor in a step. -/
def inStep (step : Nat) (warm checked : Bool) : State :=
  running { Monitor.started (recipe.step step) with
    step := step, warm := warm, checked := checked, settleTimer := some 100, windowOpen := true }

theorem witness_StepsFollowTheirTimers :
    (inStep 1 false true).resetLow = false ∧ ((inStep 1 false true).chan .ra).state = .running ∧
    ((inStep 1 false true).chan .ra).binding = some ⟨h0, .runin⟩ ∧
    ((inStep 1 false true).monitor .a).stepTimer.isSome = true ∧
    ((inStep 1 false true).monitor .a).settleTimer.isSome = true ∧
    (after (.settleTimerExpiry .a) (inStep 1 false true)).monitors.a.windowOpen = false ∧
    newest (.stepTimerExpiry .a) (inStep 1 false false) 3 = some (.directive, 4, [0, 0, 1, 3, 5]) ∧
    newest (.stepTimerExpiry .a) (inStep 2 false true) 3 = some (.directive, 4, [0, 0, 1, 3, 6]) ∧
    newest (.stepTimerExpiry .a) (inStep 2 true true) 3 = some (.directive, 4, [0, 0, 1, 1, 0]) ∧
    newest (.stepTimerExpiry .a) (inStep 1 false true) 3 =
      some (.directive, 1, [0, 0, 1, 2] ++ (recipe.step 2).bytes) ∧
    (after (.stepTimerExpiry .a) (inStep 1 false true)).monitors.a.settleTimer = some 100 := by
  repeat' apply And.intro
  all_goals decide +kernel

/-! ## Noise analyzer -/

/-- The input section within a word-select period. -/
def within16 (left : Option Int) : InputSection :=
  { InputSection.started with place := .left, left := left, revolutionOpen := true, markerPending := true }

/-- Sixteen bits of a word: 1, then 0s. -/
def bits16 : List Bool := List.replicate 15 false ++ [true]

/-- The analyzer in a phase. -/
def inPhase (p : NoisePhase) : Analyzer := { Analyzer.cleared with phase := some p }

/-- Channel N with another audio configuration. -/
def tuned (cfg : AudioConfig) (left : Option Int) : State :=
  { hearing (within16 left) (inPhase .drive) with audio := cfg }

/-- Channel N in a place of the word-select period, with an audio configuration and a left word. -/
def at_ (place : HalfPlace) (cfg : AudioConfig) (left : Option Int) : State :=
  let s := tuned cfg left
  { s with input := { s.input with place := place } }

/-- MASTER mode with 16-bit words. -/
def masterOf16 : AudioConfig := { AudioConfig.powerOn with mode := .master, width := some .w16 }

/-- MONO framing. -/
def mono : AudioConfig := { AudioConfig.powerOn with framing := .mono }

theorem witness_AHalfOfTheWordSelectYieldsItsWord :
    (tuned .powerOn none).resetLow = false ∧ (tuned .powerOn none).listening = true ∧ State.reset.listening = false ∧
    after (.audioHalfEnd .low bits16) .reset = .reset ∧
    (hearing .started (inPhase .drive)).input.place = .before ∧
    (after (.audioHalfEnd .low [true]) (hearing .started (inPhase .drive))).input =
      { InputSection.started with place := .restRight } ∧
    (after (.audioHalfEnd .high []) (hearing .started (inPhase .drive))).input =
      { InputSection.started with place := .left } ∧
    (after (.audioHalfEnd .low bits16) (at_ .left .powerOn none)).input.left = some 256 ∧
    (after (.audioHalfEnd .low bits16) (at_ .left mono none)).input.fifo = [⟨256, true, false⟩] ∧
    newest (.audioHalfEnd .low [true]) (at_ .left .powerOn none) 5 = some (.directive, 4, [0, 0, 2, 3, 11]) ∧
    after (.audioHalfEnd .high []) (at_ .right mono none) = at_ .left mono none ∧
    (after (.audioHalfEnd .high bits16) (at_ .right { AudioConfig.powerOn with source := .mean }
      (some (-512)))).input.fifo = [⟨-128, true, false⟩] ∧
    (after (.audioHalfEnd .high bits16) (at_ .restRight .powerOn none)).input =
      { within16 none with detected := some .w16 } ∧
    newest (.audioHalfEnd .high [true]) (at_ .restRight .powerOn none) 5 = some (.directive, 4, [0, 0, 2, 3, 11]) ∧
    after (.audioHalfEnd .high bits16) (at_ .left .powerOn none) = at_ .left .powerOn none ∧
    after (.audioHalfEnd .low bits16) (at_ .right .powerOn none) = at_ .right .powerOn none ∧
    after (.audioHalfEnd .low bits16) (at_ .left masterOf16 none) = at_ .left masterOf16 none ∧
    (after (.audioHalfEnd .low (bits16 ++ bits16)) (at_ .left masterOf16 none)).input.left = some 256 ∧
    (after (.audioHalfEnd .low bits16) (at_ .before masterOf16 none)).input.place = .restRight ∧
    after (.audioHalfEnd .low (bits16 ++ bits16 ++ [true])) (at_ .before masterOf16 none) =
      at_ .before masterOf16 none := by
  repeat' apply And.intro
  all_goals decide +kernel
/-- R188: a START in a left half, and then the right half that began after it, STEREO and AUTO: its 16 counts give the
width, and the left half of the next period, of 24, ends the stage FORMAT. -/
theorem test_the_first_counted_half_may_be_a_right_half :
    let s := after (.audioHalfEnd .high bits16) (at_ .restRight .powerOn none)
    (s.input.detected, newest (.audioHalfEnd .low (bits16 ++ bits16.take 8)) s 5) =
      (some .w16, some (.directive, 4, [0, 0, 2, 3, 11])) := by decide +kernel
theorem witness_WordsAreReadAtTheirWidthAndNormalized :
    bits16.length = 16 ∧ halfWord .powerOn none bits16 = .word 256 ∧ halfWord .powerOn (some .w24) bits16 = .fault ∧
    halfWord .powerOn none (bits16 ++ bits16) = .word 256 ∧
    halfWord .powerOn none (bits16 ++ bits16 ++ [true]) = .word 256 ∧
    halfWord .powerOn none (bits16.drop 1) = .fault ∧
    halfWord { AudioConfig.powerOn with width := some .w16 } none (bits16.drop 1) = .fault ∧
    halfWord masterOf16 none (bits16 ++ bits16) = .word 256 ∧
    signedBits (true :: List.replicate 15 false) = -32768 := by decide +kernel

/-- A full audio FIFO. -/
def fullFifo (marker : Bool) : InputSection :=
  { within16 none with fifo := List.replicate 64 ⟨1, false, false⟩, markerPending := marker }

theorem witness_FramesMarkersAndEdgesKeepTheRecordOfRevolutions :
    InputSection.started.revolutionOpen = false ∧ InputSection.started.frame 5 = InputSection.started ∧
    (within16 none).revolutionOpen = true ∧ (within16 none).fifo.length < 64 ∧ 64 ≤ (fullFifo true).fifo.length ∧
    ((fullFifo true).frame 5).spoilPending = true ∧
    (fullFifo false).fifo = List.replicate 63 ⟨1, false, false⟩ ++ [⟨1, false, false⟩] ∧
    ((fullFifo false).frame 5).fifo.getLast? = some ⟨1, false, true⟩ ∧
    (hearing .started (inPhase .drive)).resetLow = false ∧ (hearing .started (inPhase .drive)).listening = true ∧
    (hearing .started (inPhase .drive)).input.watchdog.isSome = true ∧
    (after .tachEdge (hearing { InputSection.started with edges := 58 } (inPhase .drive))).input.edges = 59 ∧
    (after .tachEdge (hearing { InputSection.started with edges := 59 } (inPhase .drive))).input.markerPending = true ∧
    newest .tachWatchdogExpiry (hearing .started (inPhase .drive)) 5 = some (.directive, 4, [0, 0, 2, 3, 12]) ∧
    after .tachEdge .reset = .reset ∧ after .tachWatchdogExpiry .reset = .reset := by
  repeat' apply And.intro
  all_goals decide +kernel

/-- A FIFO entry. -/
def entry (opens : Bool) : FifoEntry := ⟨5, opens, false⟩

/-- Channel N with one entry in the FIFO, buffer X in a state with n samples, and buffer Y in another. -/
def buffering (e : FifoEntry) (p : NoisePhase) (x : RevBuffer) (y : RevBuffer) (discarding : Bool) (rejected : Nat) :
    State :=
  hearing { InputSection.started with fifo := [e] }
    { inPhase p with x := x, y := y, discarding := discarding, rejected := rejected }

/-- A buffer that is filling with n samples. -/
def filling (n : Nat) : RevBuffer := ⟨.filling, List.replicate n 3, false⟩

theorem witness_EntriesRebuildTheRevolutionsAndThePhaseJudgesThem :
    (buffering (entry true) .drive .clear .clear false 0).listening = true ∧
    (buffering (entry true) .drive .clear .clear false 0).input.fifo = entry true :: [] ∧
    (after .revolutionEntryTaken (buffering (entry true) .drive .clear .clear false 0)).noise.x =
      ⟨.filling, [5], false⟩ ∧
    (after .revolutionEntryTaken (buffering (entry true) .drive .clear .clear true 0)).noise.discarding = false ∧
    (after .revolutionEntryTaken (buffering (entry true) .drive (filling 128) ⟨.folding, [], false⟩ false 0)) =
      buffering (entry true) .drive (filling 128) ⟨.folding, [], false⟩ false 0 ∧
    (after .revolutionEntryTaken (buffering (entry true) .drive (filling 128) .clear false 0)).noise.x.state =
      .folding ∧
    (after .revolutionEntryTaken (buffering (entry true) .drive (filling 127) .clear false 1)).noise.rejected = 2 ∧
    newest .revolutionEntryTaken (buffering (entry true) .drive (filling 257) .clear false 2) 5 =
      some (.directive, 4, [0, 0, 2, 3, 10]) ∧
    (after .revolutionEntryTaken (buffering (entry true) .settling (filling 9) .clear false 0)).noise.phase =
      some .drive ∧
    (after .revolutionEntryTaken (buffering (entry false) .drive .clear .clear true 0)).input.fifo = [] ∧
    (after .revolutionEntryTaken (buffering (entry false) .drive (filling 4095) .clear false
      0)).noise.x.samples.length = 4096 ∧
    (after .revolutionEntryTaken (buffering (entry false) .drive (filling 4096) .clear false 0)).noise.discarding =
      true ∧
    (after .revolutionEntryTaken (buffering (entry false) .drive (filling 4096) ⟨.folding, [], false⟩ false
      0)).input.fifo = [entry false] ∧
    ({ inPhase .flank with settled := 2 } : Analyzer).close { recipe.noiseFields with flankSettle := 4 } 5 =
      { inPhase .flank with settled := 3 } ∧
    (({ inPhase .flank with settled := 3 } : Analyzer).close
      { recipe.noiseFields with flankSettle := 4 } 5).phase = some .coast := by
  repeat' apply And.intro
  all_goals decide +kernel

/-- Channel N with a revolution of 128 samples in buffer X, FOLDING, and so many revolutions accepted. -/
def foldingIn (p : NoisePhase) (accepted : Nat) : State :=
  hearing .started { inPhase p with
    x := ⟨.folding, List.replicate 128 3, false⟩
    filling := .y
    drive := { AccBank.clear with accepted := accepted }
    coast := { AccBank.clear with accepted := accepted } }

theorem witness_AFoldSpreadsTheRevolutionAndEndsInItsBank :
    (foldingIn .drive 0).resetLow = false ∧ (foldingIn .drive 0).listening = true ∧
    (foldingIn .drive 0).noise.folding = some .x ∧ ((foldingIn .drive 0).chan .n).binding = some ⟨h0, .noise⟩ ∧
    (foldingIn .drive 0).noiseFields.driveTarget = 4 ∧ (foldingIn .drive 0).noiseFields.coastTarget = 4 ∧
    (after .foldEnd (foldingIn .drive 2)).noise.phase = some .drive ∧
    (after .foldEnd (foldingIn .drive 3)).noise.phase = some .flank ∧
    newest .foldEnd (foldingIn .drive 3) 5 = some (.directive, 2, [0, 0, 2, 2]) ∧
    (after .foldEnd (foldingIn .coast 2)).noise.coast.accepted = 3 ∧
    (after .foldEnd (foldingIn .coast 3)).noise.phase = some .evaluate ∧
    ((after .foldEnd (foldingIn .coast 3)).chan .n).stageTimer = none ∧
    AccBank.clear.slots.length = 128 ∧ List.replicate 128 (3 : Int) ≠ [] ∧
    (List.replicate 4096 (3 : Int)).length ≤ 4096 := by
  repeat' apply And.intro
  all_goals decide +kernel

/-- An accumulator bank of four revolutions whose samples swing between -a and a from slot to slot. -/
def swinging (a : Int) : AccBank := ⟨(List.replicate 64 [⟨-4 * a, 4⟩, ⟨4 * a, 4⟩]).flatten, 4⟩

/-- Channel N in its evaluation. -/
def evaluating (drive coast : AccBank) : State :=
  hearing .stopped { inPhase .evaluate with drive := drive, coast := coast }

/-- A bank whose slots hold a sine of order 8, of peak a / 32768. -/
def toned (a : Int) : AccBank := ⟨(List.range 128).map fun i => ⟨a * sine (8 * i) / 32768 * 4, 4⟩, 4⟩

theorem witness_TheNoiseEvaluationEndsTheStageByItsJudgement :
    (evaluating (swinging 40000) (swinging 0)).resetLow = false ∧
    ((evaluating (swinging 40000) (swinging 0)).chan .n).state = .running ∧
    (evaluating (swinging 40000) (swinging 0)).noise.phase = some .evaluate ∧
    (evaluating (swinging 40000) (swinging 0)).bankOf .n = ⟨.ready 2 1, 1, recipe⟩ ∧
    levelOf (swinging 40000).deviations = 40000 ∧
    newest .noiseEvaluationEnd (evaluating (swinging 40000) (swinging 0)) 5 = some (.directive, 4, [0, 0, 2, 1, 0]) ∧
    newest .noiseEvaluationEnd (evaluating (swinging 40001) (swinging 0)) 5 = some (.directive, 4, [0, 0, 2, 2, 8]) ∧
    amplitudeOf (toned 1000).deviations 8 = 999 ∧
    newest .noiseEvaluationEnd (evaluating (toned 1000) (swinging 0)) 5 = some (.directive, 4, [0, 0, 2, 2, 9]) ∧
    (after .noiseEvaluationEnd (evaluating (toned 1000) (swinging 0))).arbiter.postings.map (·.kind) =
      [.ended ⟨.fail, .band, some (.noise (levelOf (toned 1000).deviations) 0 (some ⟨8, .drive, 999⟩))⟩] := by
  repeat' apply And.intro
  all_goals decide +kernel

/-- A checked pair of order k. -/
def pair (k amplitude limit : Nat) : CheckedPair := ⟨⟨k, .drive, amplitude⟩, limit⟩

theorem witness_RootsRoundingsAndTheWorstBandAreExact :
    (∀ x ∈ [pair 1 10 5, pair 2 20 10, pair 3 9 3, pair 4 6 2], 0 < x.limit) ∧
    worstBand [pair 1 10 5, pair 2 20 10, pair 3 9 3, pair 4 6 2] = some ⟨3, .drive, 9⟩ ∧
    worstBand [pair 1 10 5, pair 2 20 10] = some ⟨1, .drive, 10⟩ ∧ worstBand [] = none ∧
    checkedPairs ⟨8, 0, 150⟩ (1, 2) = [⟨⟨8, .coast, 2⟩, 150⟩] ∧ (swinging 5).slots.length = 128 ∧
    (swinging 5).deviations = (List.replicate 64 [-5, 5]).flatten ∧ (toned 1000).deviations.length = 128 ∧
    amplitudeOf (toned 1000).deviations 63 ≤ 1 ∧ (0 : Int) ≤ 203 ∧ (0 : Nat) < 2 := by decide +kernel

/-! ## Leak analyzer -/

/-- Channel LA with one reading of a pressure and a temperature. -/
def leakTaking (p : LeakPhase) (pressure : Nat) (expired : Bool) (start : Option LeakPoint) : State :=
  leaking { LeakAnalyzer.cleared with
    phase := some p, queue := [some ⟨pressure, 2150⟩], measureExpired := expired, startReading := start }

/-- The phase and the newest frame after a leak reading is taken. -/
def leakAfter (s : State) : Option LeakPhase × Option (FrameKind × Nat × List Byte) :=
  ((after (.leakReadingTaken .a) s).leaks.a.phase, newest (.leakReadingTaken .a) s 6)

theorem witness_LeakReadingsAndTimersMoveTheTestOn :
    (leakTaking .fill 200000 false none).resetLow = false ∧ ((leakTaking .fill 200000 false none).chan .la).state =
      .running ∧
    ((leakTaking .fill 200000 false none).chan .la).binding = some ⟨h0, .leak⟩ ∧
    ((leakTaking .fill 200000 false none).leak .a).queue = some ⟨200000, 2150⟩ :: [] ∧
    (leakTaking .fill 200000 false none).leakFields .a = recipe.leakFields ∧
    (after (.leakReadingTaken .a) (leaking (waiting .fill 1))).leaks.a = waiting .fill 0 ∧
    leakAfter (leakTaking .fill 215001 false none) = (none, some (.directive, 4, [0, 0, 3, 3, 15])) ∧
    leakAfter (leakTaking .fill 215000 false none) = (some .fill, none) ∧
    leakAfter (leakTaking .fill 197999 false none) = (some .fill, none) ∧
    leakAfter (leakTaking .fill 198000 false none) = (some .settle, none) ∧
    leakAfter (leakTaking .fill 202000 false none) = (some .settle, none) ∧
    leakAfter (leakTaking .settle 215001 false none) = (none, some (.directive, 4, [0, 0, 3, 3, 15])) ∧
    leakAfter (leakTaking .settle 194999 false none) = (none, some (.directive, 4, [0, 0, 3, 2, 13])) ∧
    leakAfter (leakTaking .settle 195000 false none) = (some .settle, none) ∧
    (after (.leakReadingTaken .a) (leakTaking .measure 200000 false none)).leaks.a.measureTimer = some 30000 ∧
    leakAfter (leakTaking .measure 200000 false (some ⟨1, 1⟩)) = (some .measure, none) ∧
    leakAfter (leakTaking .measure 200000 true (some ⟨1, 1⟩)) = (some .evaluate, some (.directive, 3, [0, 0, 3])) ∧
    newest (.fillTimerExpiry .a) (leaking (LeakAnalyzer.started recipe.leakFields)) 6 =
      some (.directive, 4, [0, 0, 3, 2, 13]) ∧
    (after (.leakSettleTimerExpiry .a) (leaking { waiting .settle 0 with settleTimer := some 1 })).leaks.a.phase =
      some .measure ∧
    (after (.measureTimerExpiry .a) (leaking { waiting .measure 0 with measureTimer := some 1 })).leaks.a.endTimer =
      some 2000 ∧
    newest (.endReadingTimerExpiry .a) (leaking { waiting .measure 0 with endTimer := some 1 }) 6 =
      some (.directive, 4, [0, 0, 3, 3, 16]) := by
  repeat' apply And.intro
  all_goals decide +kernel

/-- Channel LA in its evaluation, with an end pressure. -/
def leakEvaluating (pressure : Nat) : State :=
  leaking { LeakAnalyzer.cleared with
    phase := some .evaluate, startReading := some ⟨200000, 2150⟩, endReading := some ⟨pressure, 2160⟩ }

theorem witness_TheLeakEvaluationComparesQWithItsLimit :
    (leakEvaluating 199880).resetLow = false ∧ ((leakEvaluating 199880).chan .la).state = .running ∧
    ((leakEvaluating 199880).leak .a).phase = some .evaluate ∧
    ((leakEvaluating 199880).leak .a).startReading = some ⟨200000, 2150⟩ ∧
    ((leakEvaluating 199880).leak .a).endReading = some ⟨199880, 2160⟩ ∧
    (∀ x ∈ [(⟨200000, 2150⟩ : LeakPoint), ⟨199880, 2160⟩],
      x.pressure ≤ 1000000 ∧ -4000 ≤ x.temperature ∧ x.temperature ≤ 15000) ∧
    (leakEvaluating 199880).leakFields .a = recipe.leakFields ∧ recipe.leakFields.volume ≤ 100000 ∧
    newest (.leakEvaluationEnd .a) (leakEvaluating 199880) 6 = some (.directive, 4, [0, 0, 3, 1, 0]) ∧
    newest (.leakEvaluationEnd .a) (leakEvaluating 199000) 6 = some (.directive, 4, [0, 0, 3, 2, 14]) := by
  repeat' apply And.intro
  all_goals decide +kernel

/-! ## The standing conditions hold of machines at work -/

/-- A machine at work: the axle's run-in stage RUNNING with readings queued, a word of its record in error, a request
held, and notices unsent. -/
def atWork : State :=
  let s := asks ((running (queued 16 1)).disturb threeWrong) 0 .lookup axle
  s.setPort 1 { s.port 1 with rx := some [1, 0, 64], tx := List.replicate 8 ⟨.notice, 0, 1, []⟩ }

/-- The same axle's stage ended, its posting waiting, and a cursor at work on another bank. -/
def posted : State :=
  let s := ending .running 2 (.ended ⟨.fail, .speed, some (.runin 1 2 3 4)⟩)
  { s with store := { s.store with
      banks := s.store.banks.set 3 ⟨.opened, 0, recipe⟩
      windows := s.store.windows.set 1 ⟨true, 4, 6, 3⟩
      cursor := some ⟨3, .bands, 4, .write, row [1, 2], 0⟩ } }

theorem witness_EveryStepKeepsTheLinksInOrder : LinkInv atWork ∧ (atWork.port 1).unsentNotices = 8 := by
  unfold LinkInv Port.ok rxOk; decide +kernel
theorem witness_EveryStepKeepsChannelsAndPostingsInOrder :
    ChannelInv atWork ∧ ChannelInv posted ∧ ChannelInv (leaking (.started recipe.leakFields)) ∧
    ChannelInv (leaking { waiting .settle 16 with fillTimer := none, settleTimer := some 10000 }) ∧
    ChannelInv (leaking { waiting .measure 0 with
      fillTimer := none, startReading := some ⟨1, 1⟩, measureTimer := some 30000 }) := by
  unfold ChannelInv State.channelOk State.analyzerAtRest LeakAnalyzer.timersOk
  refine ⟨?_, ?_, ?_, ?_, ?_⟩ <;> refine ⟨?_, ?_, ?_, ?_, ?_, ?_⟩ <;> decide +kernel
/-- A settle timer that runs in EVALUATE is no state of the machine. -/
theorem test_no_settle_timer_in_evaluate : ¬(waiting .evaluate 0).timersOk := by
  unfold LeakAnalyzer.timersOk; decide +kernel
theorem witness_EveryStepKeepsBindingsAndStagesTogether : ClaimInv atWork ∧ ClaimInv posted := by
  unfold ClaimInv State.bindingOk State.stageOk; decide +kernel
theorem witness_EveryStepKeepsTheRecipeStoreInOrder : StoreInv atWork ∧ StoreInv posted := by
  have banks : ∀ s ∈ [atWork, posted], ∀ b : BankId, (s.bank b).ok := by
    unfold Bank.ok Contents.shaped; decide +kernel
  refine ⟨⟨banks _ (by simp), nofun, by decide +kernel⟩, banks _ (by simp), ?_, by decide +kernel⟩
  intro cur h
  cases h
  unfold Cursor.ok; decide +kernel
theorem witness_EveryStepKeepsTheFileTableInOrder : FileTableInv atWork ∧ FileTableInv posted := by
  unfold FileTableInv; decide +kernel
theorem witness_EveryStepKeepsTheFilesOwnFieldsInOrder : FileInv atWork ∧ FileInv posted := by
  unfold FileInv FileRec.ok; decide +kernel
theorem witness_EveryStepKeepsAttemptsWithinTheRetryLimit : AttemptInv atWork ∧ AttemptInv posted := by
  unfold AttemptInv attemptsOk; refine ⟨⟨?_, ?_⟩, ?_, ?_⟩ <;> decide +kernel
theorem witness_EveryStepKeepsQueuesAndBuffersWithinTheirLimits :
    QueueInv atWork ∧ QueueInv (foldingIn .drive 3) ∧ QueueInv (hearing (fullFifo true) (inPhase .drive)) := by
  unfold QueueInv RevBuffer.ok; decide +kernel

end Sys2Proof.Tests
end

section
/-! ADMIT's choice of a bank and its checks in order (R15, R44), and the setting of the loading cursor (R39). -/

namespace Sys2Proof.Machine

/-! ### A granted request that is refused -/

/-- A granted request whose item replies a code on the state it was given is refused with that code (R163). -/
theorem State.serve_refuses {s : State} {r : Request} {item : PortId → List Byte → State → Reply} {p : PortId}
    {h : Held} {code : AnswerCode} (hg : s.grants r p h)
    (hi : item p h.payload (s.granting p) = (s.granting p).reply code) :
    (Host.Outcome.next (s.serve r item) : Outcome) = .next (s.refuses p h code) :=
  State.serve_answers hg hi

/-! ### Words and bytes of a payload (R173) -/

/-- The last byte of a number is its least significant one (R173). -/
theorem natOf_append_singleton (bs : List Byte) (b : Byte) : natOf (bs ++ [b]) = 256 * natOf bs + b.toNat := by
  simp [natOf, Nat.mul_comm]

/-- The bytes of a number hold the number, as far as they reach (R173). -/
theorem natOf_bytesOf (n v : Nat) : natOf (bytesOf n v) = v % 256 ^ n := by
  induction n generalizing v with
  | zero => simp [bytesOf, natOf, Nat.mod_one]
  | succ n ih =>
    rw [bytesOf_succ, natOf_append_singleton, ih, Nat.pow_succ', Nat.mod_mul, Nat.add_comm, BitVec.toNat_ofNat]

/-- A word is read back from its bytes (R173). -/
theorem ofNat_natOf_bytesOfWord (v : Word) : BitVec.ofNat 32 (natOf (bytesOfWord v)) = v := by
  apply BitVec.eq_of_toNat_eq
  have hv : v.toNat < 256 ^ 4 := v.isLt
  rw [bytesOfWord, natOf_bytesOf, Nat.mod_eq_of_lt hv, BitVec.toNat_ofNat, Nat.mod_eq_of_lt v.isLt]

/-- A payload that begins with a serial gives that serial (R173). -/
theorem serialOf_append {serial : Serial} (hs : serial.length = 12) (rest : List Byte) :
    serialOf (serial ++ rest) = serial := by
  simp [serialOf, field, ← hs]

/-- The four bytes after the serial are the variant's (R173). -/
theorem field_variant {serial : Serial} (hs : serial.length = 12) (v : Word) :
    field (serial ++ bytesOfWord v) 12 4 = bytesOfWord v := by
  simp [field, ← hs, bytesOfWord, List.take_of_length_le, bytesOf_length]

/-! ### The bank a variant gets (R42 to R44) -/

/-- A window hits where it is enabled and the variant within its mask is its base (R44). -/
theorem Window.hits_iff (w : Window) (v : Word) : w.hits v = true ↔ w.enable = true ∧ v &&& w.mask = w.base := by
  simp [Window.hits]

/-- The first window that hits gives its bank (R44). -/
theorem Store.choose_of_first_hit {st : Store} {v : Word} {i : Fin 8} (hi : st.windows[i].hits v = true)
    (hlow : ∀ j : Fin 8, j < i → st.windows[j].hits v = false) : st.choose v = some st.windows[i].bank := by
  have hfind : st.windows.toList.find? (fun w => w.hits v) = some st.windows[i] := by
    refine List.find?_eq_some_iff_getElem.2 ⟨hi, i.val, by simp, by simp, fun j hj => ?_⟩
    simpa using hlow ⟨j, hj.trans i.isLt⟩ hj
  simp [Store.choose, hfind]

/-- Where no window hits, the default disposition decides (R43, R44). -/
theorem Store.choose_of_no_hit {st : Store} {v : Word} (hno : ∀ i : Fin 8, st.windows[i].hits v = false) :
    st.choose v = st.fallback := by
  have hfind : st.windows.toList.find? (fun w => w.hits v) = none := by
    refine List.find?_eq_none.2 fun w hw => ?_
    obtain ⟨i, hi, rfl⟩ := List.mem_iff_getElem.1 hw
    simpa using hno ⟨i, by simpa using hi⟩
  simp [Store.choose, hfind]

/-! ### The free slot and the new file (R1, R16) -/

/-- The file table is full exactly where every slot is live (R1). -/
theorem State.freeSlot_eq_none_iff (s : State) : s.freeSlot = none ↔ ∀ i : SlotId, (s.file i).isSome = true := by
  simp [State.freeSlot, allSlots, Option.isSome_iff_ne_none]

/-- The free slot is one with no live file (R1). -/
theorem State.file_of_freeSlot {s : State} {i : SlotId} (h : s.freeSlot = some i) : s.file i = none := by
  simpa using List.find?_some h

/-- A slot with no live file makes the search for a free one succeed (R1). -/
theorem State.exists_freeSlot {s : State} (h : ∃ i : SlotId, s.file i = none) : ∃ i, s.freeSlot = some i := by
  obtain ⟨i, hi⟩ := h
  refine Option.ne_none_iff_exists'.1 fun hn => ?_
  simpa [hi] using s.freeSlot_eq_none_iff.1 hn i

/-- The file that steps 1 to 8 of R16 write into the slot. -/
theorem State.file_openFile (s : State) (i : SlotId) (serial : Serial) (v : Word) (b : BankId) :
    (s.openFile i serial v b).file i = some
      ⟨serial, v, nextOrder s.engine.admissions, b, [], .pending, some (.fresh (s.bank b).contents)⟩ := by
  simp [State.openFile, State.file, State.slot, State.setSlot]

/-- An answer writes no file (R163). -/
@[simp] theorem State.file_answer (s : State) (p : PortId) (tag : Byte) (code : AnswerCode) (data : List Byte)
    (i : SlotId) : (s.answer p tag code data).file i = s.file i := by
  simp [State.file, State.slot]

/-! ### ADMIT's checks in their order (R15) -/

section
variable (s : State) (p : PortId) {serial : Serial} (v : Word) (hs : serial.length = 12)
include hs

/-- Check 1 of R15: a byte that is no digit and no capital letter. -/
theorem admitItem_malformed (hb : serial.all isSerialByte = false) :
    admitItem p (serial ++ bytesOfWord v) s = s.reply .malformed := by
  simp only [admitItem, serialOf_append hs, hb, Bool.not_false, if_true]

/-- Check 2 of R15: a live file with the serial. -/
theorem admitItem_exist (hb : serial.all isSerialByte = true) (hf : (s.find serial).isSome = true) :
    admitItem p (serial ++ bytesOfWord v) s = s.reply .exist := by
  simp [admitItem, serialOf_append hs, hb, hf]

variable (hb : serial.all isSerialByte = true) (hf : s.find serial = none)
include hb hf

/-- Check 3 of R15: no free slot. -/
theorem admitItem_full (hn : s.freeSlot = none) :
    admitItem p (serial ++ bytesOfWord v) s = s.reply .full := by
  simp [admitItem, serialOf_append hs, hb, hf, hn]

variable {i : SlotId} (hi : s.freeSlot = some i)
include hi

/-- Check 4 of R15: no bank for the variant. -/
theorem admitItem_noRecipe (hc : s.store.choose v = none) :
    admitItem p (serial ++ bytesOfWord v) s = s.reply .noRecipe := by
  simp [admitItem, serialOf_append hs, field_variant hs, ofNat_natOf_bytesOfWord, hb, hf, hi, hc]

variable {b : BankId} (hc : s.store.choose v = some b)
include hc

/-- Check 5 of R15: a bank that is not READY. -/
theorem admitItem_notReady (hr : (s.bank b).isReady = false) :
    admitItem p (serial ++ bytesOfWord v) s = s.reply .notReady := by
  simp [admitItem, serialOf_append hs, field_variant hs, ofNat_natOf_bytesOfWord, hb, hf, hi, hc, hr]

/-- An ADMIT that passes every check opens the file in the free slot, bound to the chosen bank (R16). -/
theorem admitItem_done (hr : (s.bank b).isReady = true) :
    admitItem p (serial ++ bytesOfWord v) s = ⟨(s.openFile i serial v b).recompute i, .done,
      (s.handleOf i).bytes ++ bytesOf 2 (nextOrder s.engine.admissions)⟩ := by
  simp [admitItem, serialOf_append hs, field_variant hs, ofNat_natOf_bytesOfWord, hb, hf, hi, hc, hr]

end

/-- ADMIT is served by its item. -/
theorem exec_admitAxle (s : State) : exec .admitAxle s = .next (s.serve .admitAxle admitItem) := rfl

/-- Settles O14: the checks by R15's order, the bank by the first window that hits. -/
theorem admitChoosesItsBankOrIsRefusedByTheFirstFailingCheck :
    Obligations.AdmitChoosesItsBankOrIsRefusedByTheFirstFailingCheck := by
  refine ⟨fun st v => ⟨fun w => w.hits_iff v, fun i => Store.choose_of_first_hit, Store.choose_of_no_hit⟩, ?_⟩
  intro s p h serial v hg hs hp
  rw [exec_admitAxle]
  have refused {code} (hi : admitItem p (serial ++ bytesOfWord v) (s.granting p) = (s.granting p).reply code) :
      (.next (s.serve .admitAxle admitItem) : Outcome) = .next (s.refuses p h code) :=
    State.serve_refuses hg (hp ▸ hi)
  refine ⟨fun hb => refused (admitItem_malformed _ p v hs hb),
    fun hb hf => refused (admitItem_exist _ p v hs hb hf),
    fun hb hf hn => refused (admitItem_full _ p v hs hb hf ((State.freeSlot_eq_none_iff _).2 hn)), ?_⟩
  intro hb hf hfree
  obtain ⟨i, hi⟩ : ∃ i, (s.granting p).freeSlot = some i := State.exists_freeSlot hfree
  refine ⟨fun hc => refused (admitItem_noRecipe _ p v hs hb hf hi hc), fun b hc =>
    ⟨fun hr => refused (admitItem_notReady _ p v hs hb hf hi hc hr), fun hr => ?_⟩⟩
  have hdone := admitItem_done (s.granting p) p v hs hb hf hi hc hr
  have hfile := State.file_recompute_self _ i _ (State.file_openFile (s.granting p) i serial v b)
  exact ⟨_, i, _, State.serve_answers hg (hp ▸ hdone), State.file_of_freeSlot hi,
    (State.file_answer _ _ _ _ _ i).trans hfile, rfl, rfl, rfl⟩

/-! ### The bytes that name a bank, a table and a direction (R173) -/

/-- A number below 8 names the bank of that number. -/
theorem below8_eq_some_iff (n : Nat) (b : Fin 8) : below8 n = some b ↔ n = b.val := by
  unfold below8
  split
  · simp [Fin.ext_iff]
  · simp; omega

/-- A table's byte names that table. -/
theorem Table.ofByte_byte (t : Table) : Table.ofByte t.byte = some t := by cases t <;> rfl

/-- A byte that names a table is that table's byte. -/
theorem Table.byte_of_ofByte {b : Byte} {t : Table} (h : Table.ofByte b = some t) : t.byte = b := by
  simpa using List.find?_some h

/-- Two tables of one byte are one table. -/
theorem Table.byte_injective : Function.Injective Table.byte := fun t u h =>
  Option.some.inj (by rw [← t.ofByte_byte, h, u.ofByte_byte])

/-- The tables are numbered 0 to 4. -/
theorem Table.byte_le (t : Table) : t.byte.toNat ≤ 4 := by cases t <;> decide

/-- A byte that names a direction is 0 or 1. -/
theorem Direction.le_of_ofByte {b : Byte} {d : Direction} (h : Direction.ofByte b = some d) : b.toNat ≤ 1 := by
  unfold Direction.ofByte at h
  split at h
  · next h0 => simp [h0]
  · split at h
    · next h1 => simp [h1]
    · cases h

/-! ### CURSOR's check and effect (R39) -/

/-- CURSOR refuses what names no bank, table, direction or entry (R39). -/
theorem cursorItem_range (s : State) (p : PortId) {bank table index direction : Byte}
    (h : 7 < bank.toNat ∨ 4 < table.toNat ∨ 1 < direction.toNat ∨
      ∃ t : Table, t.byte = table ∧ t.entries ≤ index.toNat) :
    cursorItem p [bank, table, index, direction] s = s.reply .range := by
  unfold cursorItem
  split
  · next b t d hb ht hd =>
    have hbank : bank.toNat = b.val := (below8_eq_some_iff _ b).1 hb
    have htable : t.byte = table := Table.byte_of_ofByte ht
    have hdir : direction.toNat ≤ 1 := Direction.le_of_ofByte hd
    have hindex : t.entries ≤ index.toNat := by
      rcases h with h | h | h | ⟨u, hu, hle⟩
      · omega
      · exact absurd (htable ▸ t.byte_le) (by omega)
      · omega
      · rwa [Table.byte_injective (htable.trans hu.symm)]
    exact if_pos hindex
  · rfl

section
variable (s : State) (p : PortId) {bank index : Byte} {b : BankId} (t : Table) (hb : bank.toNat = b.val)
  (hi : index.toNat < t.entries)
include hb hi

/-- CURSOR in WRITE direction stands on the entry with empty staging (R38, R39). -/
theorem cursorItem_write : cursorItem p [bank, t.byte, index, 0] s =
    (s.setCursor (some ⟨b, t, index.toNat, .write, [], 0⟩)).reply .done := by
  simp [cursorItem, byteAt, (below8_eq_some_iff _ b).2 hb, Table.ofByte_byte, Direction.ofByte, Nat.not_le.2 hi]

/-- CURSOR in READ direction stands on the entry, loaded (R38, R39). -/
theorem cursorItem_read : cursorItem p [bank, t.byte, index, 1] s =
    (s.setCursor (some ⟨b, t, index.toNat, .read, (s.bank b).contents.entry t index.toNat, 0⟩)).reply .done := by
  simp [cursorItem, byteAt, (below8_eq_some_iff _ b).2 hb, Table.ofByte_byte, Direction.ofByte, Nat.not_le.2 hi,
    loadEntry, hi]

end

/-- CURSOR is served by its item. -/
theorem exec_cursor (s : State) : exec .cursor s = .next (s.serve .cursor cursorItem) := rfl

/-- Settles O26: the check by what the four bytes name, the effect by the direction. -/
theorem cursorIsSetOnAnEntry : Obligations.CursorIsSetOnAnEntry := by
  intro s p h bank table index direction hg hp
  rw [exec_cursor]
  refine ⟨fun hbad => State.serve_refuses hg (hp ▸ cursorItem_range _ p hbad), ?_⟩
  rintro b t hb rfl hi
  refine ⟨?_, ?_⟩ <;> rintro rfl
  · exact State.serve_answers hg (hp ▸ cursorItem_write (s.granting p) p t hb hi)
  · exact State.serve_answers hg (hp ▸ cursorItem_read (s.granting p) p t hb hi)

end Sys2Proof.Machine
end

section
/-! The words of the halves: the number their bits hold, its normalization, and what a half yields at a configured and
at a detected width (R90, R92, R93); the sample of two words (R94). -/

namespace Sys2Proof.Machine

/-! ### The number a word's bits hold (R90) -/

/-- The number a word's bits hold without a sign, most significant bit first. -/
def bitsValue (bits : List Bool) : Nat := bits.foldl (fun acc b => 2 * acc + b.toNat) 0

/-- Bits read after a number `a` are the low bits of the number they give together. -/
theorem foldl_bits_eq (a : Nat) (bits : List Bool) :
    bits.foldl (fun acc b => 2 * acc + b.toNat) a = a * 2 ^ bits.length + bitsValue bits := by
  induction bits generalizing a with
  | nil => simp [bitsValue]
  | cons b bits ih =>
    simp only [bitsValue, List.foldl_cons, List.length_cons] at ih ⊢
    rw [ih, ih (2 * 0 + b.toNat)]
    ring

/-- The first bit weighs as much as the number of bits after it says. -/
theorem bitsValue_cons (b : Bool) (bits : List Bool) :
    bitsValue (b :: bits) = b.toNat * 2 ^ bits.length + bitsValue bits := by
  simp [bitsValue, foldl_bits_eq (b.toNat) bits]

/-- A number of `n` bits is below `2 ^ n`. -/
theorem bitsValue_lt (bits : List Bool) : bitsValue bits < 2 ^ bits.length := by
  induction bits with
  | nil => simp [bitsValue]
  | cons b bits ih =>
    rw [bitsValue_cons, List.length_cons, Nat.pow_succ]
    cases b <;> simp <;> omega

/-- In two's complement the first bit weighs against the others. -/
theorem signedBits_cons (b : Bool) (bits : List Bool) :
    signedBits (b :: bits) = (bitsValue bits : Int) - b.toNat * 2 ^ bits.length := by
  have h : signedBits (b :: bits) =
      if b = true then (bitsValue (b :: bits) : Int) - 2 ^ (bits.length + 1) else bitsValue (b :: bits) := by
    simp [signedBits, bitsValue]
  rw [h, bitsValue_cons]
  cases b
  · simp
  · simp [pow_succ]; ring

/-- A word of `n + 1` bits is a signed number of `n + 1` bits. -/
theorem signedBits_range {n : Nat} {bits : List Bool} (h : bits.length = n + 1) :
    -2 ^ n ≤ signedBits bits ∧ signedBits bits < 2 ^ n := by
  obtain ⟨b, rest, rfl⟩ := List.exists_cons_of_length_eq_add_one h
  obtain rfl : rest.length = n := by simpa using h
  have hlt : (bitsValue rest : Int) < 2 ^ rest.length := by exact_mod_cast bitsValue_lt rest
  rw [signedBits_cons]
  cases b <;> simp <;> omega

/-! ### Normalization (R93) and the sample of a stereo frame (R94) -/

/-- Floor division by 256 leaves a remainder of 0 to 255 (R93). -/
theorem normalize_w32_floor (v : Int) : 256 * normalize .w32 v ≤ v ∧ v < 256 * normalize .w32 v + 256 := by
  simp only [normalize]; omega

/-- A word of its width's bits is normalized into the 24-bit range (R93). -/
theorem normalize_signedBits_range (w : WordWidth) {bits : List Bool} (h : bits.length = w.bits) :
    -8388608 ≤ normalize w (signedBits bits) ∧ normalize w (signedBits bits) ≤ 8388607 := by
  cases w with
  | w16 => have := signedBits_range (n := 15) h; simp only [normalize]; omega
  | w24 => have := signedBits_range (n := 23) h; simp only [normalize]; omega
  | w32 => have := signedBits_range (n := 31) h; simp only [normalize]; omega

/-- The sample of two words keeps the 24-bit range of both (R94). -/
theorem stereoSample_range (src : AudioSource) {l r : Int} (hl : -8388608 ≤ l ∧ l ≤ 8388607)
    (hr : -8388608 ≤ r ∧ r ≤ 8388607) : -8388608 ≤ stereoSample src l r ∧ stereoSample src l r ≤ 8388607 := by
  cases src with
  | left => exact hl
  | right => exact hr
  | mean =>
    have hlow : (-16777216 : Int).tdiv 2 ≤ (l + r).tdiv 2 := Int.tdiv_le_tdiv (by decide) (by omega)
    have hhigh : (l + r).tdiv 2 ≤ (16777214 : Int).tdiv 2 := Int.tdiv_le_tdiv (by decide) (by omega)
    exact ⟨hlow, hhigh⟩

/-! ### What a half yields (R90, R92) -/

section
variable {cfg : AudioConfig} {w : WordWidth} (hw : cfg.width = some w) (detected : Option WordWidth)
  {bits : List Bool}
include hw

/-- A half of at least the configured width yields the word of its first bits (R90). -/
theorem halfWord_of_configured_le (h : w.bits ≤ bits.length) : halfWord cfg detected bits = wordAtWidth w bits := by
  simp [halfWord, hw, h]

/-- A half shorter than the configured width is a format fault (R90). -/
theorem halfWord_of_lt_configured (h : bits.length < w.bits) : halfWord cfg detected bits = .fault := by
  simp [halfWord, hw, h]

/-- Under a configured width nothing is detected (R92). -/
theorem detectedAfter_configured (bits : List Bool) : detectedAfter cfg detected bits = detected := by
  simp [detectedAfter, hw]

end

/-- Table 5-3: 32 and more bit clocks give the width 32 (R92). -/
theorem widthOfCount_eq (n : Nat) : widthOfCount n =
    if n = 16 then some .w16 else if n = 24 then some .w24 else if n = 32 ∨ 33 ≤ n then some .w32 else none := by
  have h : (n = 32 ∨ 33 ≤ n) ↔ 32 ≤ n := by omega
  simp only [widthOfCount, h]

section
variable {cfg : AudioConfig} (hauto : cfg.width = none) {detected : Option WordWidth} {bits : List Bool}
include hauto

/-- In AUTO a half whose count gives no width is a format fault (R92). -/
theorem halfWord_auto_of_no_width (h : widthOfCount bits.length = none) : halfWord cfg detected bits = .fault := by
  simp [halfWord, hauto, h]

variable {w : WordWidth} (hgiven : widthOfCount bits.length = some w)
include hgiven

/-- In AUTO the first half, and each one that gives the detected width, yields its word (R92). -/
theorem halfWord_auto_of_same_width (h : detected.getD w = w) : halfWord cfg detected bits = wordAtWidth w bits := by
  simp [halfWord, hauto, hgiven, h]

/-- In AUTO a half that gives another width than the detected one is a format fault (R92). -/
theorem halfWord_auto_of_other_width (h : detected.getD w ≠ w) : halfWord cfg detected bits = .fault := by
  simp [halfWord, hauto, hgiven, h]

/-- In AUTO a half sets the detected width where none stands (R92). -/
theorem detectedAfter_auto : detectedAfter cfg detected bits = some (detected.getD w) := by
  simp [detectedAfter, hauto, hgiven]

end

/-- Settles O44: the ranges from the weights of a word's bits, and a half's word by the width that reads it. -/
theorem wordsAreReadAtTheirWidthAndNormalized : Obligations.WordsAreReadAtTheirWidthAndNormalized := by
  refine ⟨fun v => ⟨rfl, rfl, normalize_w32_floor v⟩,
    fun w bits h => normalize_signedBits_range w (List.length_take_of_le h),
    fun src l r hl hl' hr hr' => stereoSample_range src ⟨hl, hl'⟩ ⟨hr, hr'⟩,
    fun cfg detected bits w hw => ⟨detectedAfter_configured hw detected bits,
      halfWord_of_configured_le hw detected, fun _ => halfWord_of_lt_configured hw detected⟩, ?_⟩
  intro cfg detected bits hauto
  dsimp only
  rw [← widthOfCount_eq]
  refine ⟨halfWord_auto_of_no_width hauto, fun w hgiven => ⟨fun hsame => ?_, fun d hd hne => ?_⟩⟩
  · have hkeeps : detected.getD w = w := by rcases hsame with rfl | rfl <;> rfl
    exact ⟨halfWord_auto_of_same_width hauto hgiven hkeeps,
      (detectedAfter_auto hauto hgiven).trans (congrArg some hkeeps)⟩
  · exact halfWord_auto_of_other_width hauto hgiven (by rwa [hd])

end Sys2Proof.Machine
end

section
/-! The evaluation of a leak channel: rounded quotients compared with integers, the ranges of the compensated end
pressure, the decay and the leak rate (R140, R141), and the end that the judgement of Q gives the stage (R142). -/

namespace Sys2Proof.Machine

/-! ### Rounded quotients (00, Rounding and integer functions) -/

/-- Of a number not below 0 the quotient is rounded by adding half the divisor and taking the floor. -/
theorem roundDiv_of_nonneg {a : Int} (ha : 0 ≤ a) (b : Nat) : roundDiv a b = (2 * a + b) / (2 * b) := by
  simp [roundDiv, Int.not_lt.2 ha, abs_of_nonneg ha]

/-- A rounded quotient reaches `k` where the quotient reaches `k` less a half. -/
theorem le_roundDiv_iff {a : Int} (ha : 0 ≤ a) {b : Nat} (hb : 0 < b) (k : Int) :
    k ≤ roundDiv a b ↔ k * (2 * b) ≤ 2 * a + b := by
  rw [roundDiv_of_nonneg ha, Int.le_ediv_iff_mul_le (by omega)]

/-- A rounded quotient is below `k` where the quotient is below `k` less a half. -/
theorem roundDiv_lt_iff {a : Int} (ha : 0 ≤ a) {b : Nat} (hb : 0 < b) (k : Int) :
    roundDiv a b < k ↔ 2 * a + b < k * (2 * b) := by
  rw [← Int.not_le, le_roundDiv_iff ha hb, Int.not_le]

/-! ### The compensated decay (R140) -/

/-- The pressure and the temperature lie in the ranges of a valid reading (R127). -/
def LeakPoint.InRange (x : LeakPoint) : Prop := x.pressure ≤ 1000000 ∧ -4000 ≤ x.temperature ∧ x.temperature ≤ 15000

section
variable {p q : LeakPoint} (hp : p.InRange) (hq : q.InRange)

include hp in
/-- The absolute temperature of a valid reading, in 0.01 K (R140). -/
theorem LeakPoint.InRange.absolute_temperature :
    23315 ≤ p.temperature + 27315 ∧ p.temperature + 27315 ≤ 42315 := by
  obtain ⟨-, hlow, hhigh⟩ := hp
  omega

include hp hq

/-- The range of the product of the absolute end pressure and the absolute start temperature (R140, step 3). -/
theorem compensation_product_range :
    101325 * 23315 ≤ ((q.pressure : Int) + 101325) * (p.temperature + 27315) ∧
    ((q.pressure : Int) + 101325) * (p.temperature + 27315) ≤ 1101325 * 42315 := by
  obtain ⟨hlow, hhigh⟩ := hp.absolute_temperature
  obtain ⟨hpressure, -⟩ := hq
  exact ⟨mul_le_mul (by omega) hlow (by omega) (by omega), mul_le_mul (by omega) hhigh (by omega) (by omega)⟩

/-- The range of the compensated end pressure: the least product over the greatest divisor, and the greatest over the
least, each rounded (R140, step 3). -/
theorem compensatedEnd_range : 55829 ≤ compensatedEnd p q ∧ compensatedEnd p q ≤ 1998823 := by
  obtain ⟨hlow, hhigh⟩ := compensation_product_range hp hq
  obtain ⟨hdivisor, hdivisor'⟩ := hq.absolute_temperature
  unfold compensatedEnd
  have hproduct : 0 ≤ ((q.pressure : Int) + 101325) * (p.temperature + 27315) := by omega
  have hpositive : 0 < (q.temperature + 27315).toNat := by omega
  constructor
  · rw [le_roundDiv_iff hproduct hpositive]
    omega
  · rw [← Int.lt_add_one_iff, roundDiv_lt_iff hproduct hpositive]
    omega

/-- The greatest decay is that of the greatest start pressure and the least compensated end pressure (R140, step 4). -/
theorem evaluateLeak_decay_le (f : LeakFields) : (evaluateLeak f p q).decay ≤ 1045496 := by
  have hlow := (compensatedEnd_range hp hq).1
  obtain ⟨hpressure, -⟩ := hp
  simp only [evaluateLeak]
  omega

end

/-- A decay below 0 is set to 0 (R140, step 4). -/
theorem ite_neg_zero_toNat (d : Int) : (if d < 0 then 0 else d.toNat) = d.toNat := by
  split <;> omega

/-! ### The leak rate (R141) -/

/-- The numerator of Q fits in 63 bits. -/
theorem leakRate_numerator_lt {decay volume : Nat} (hd : decay ≤ 1045496) (hv : volume ≤ 100000) :
    decay * volume * 60000000 < 2 ^ 63 := by
  have h : decay * volume ≤ 1045496 * 100000 := Nat.mul_le_mul hd hv
  omega

/-- Q is at most 9,999,999. -/
theorem leakRate_le (f : LeakFields) (decay : Nat) : leakRate f decay ≤ 9999999 := Nat.min_le_left _ _

/-! ### The judgement of Q (R142) -/

/-- A Q above the leak limit fails the stage. -/
theorem judgeLeak_of_lt {f : LeakFields} {r : LeakResults} (h : f.leakLimit < r.rate) :
    judgeLeak f r = ⟨.fail, .decay, some (.leak r.rate r.decay r.rise)⟩ := if_pos h

/-- A Q up to the leak limit passes the stage. -/
theorem judgeLeak_of_le {f : LeakFields} {r : LeakResults} (h : r.rate ≤ f.leakLimit) :
    judgeLeak f r = ⟨.pass, .none, some (.leak r.rate r.decay r.rise)⟩ := if_neg (Nat.not_lt.2 h)

/-- The evaluation of a RUNNING channel in EVALUATE keeps its results and ends the stage by their judgement. -/
theorem exec_leakEvaluationEnd {s : State} {c : LeakCh} {p q : LeakPoint} (hreset : s.resetLow = false)
    (hrunning : (s.chan c.id).state = .running) (hphase : (s.leak c).phase = some .evaluate)
    (hstart : (s.leak c).startReading = some p) (hend : (s.leak c).endReading = some q) :
    exec (.leakEvaluationEnd c) s =
      .next ((s.setLeak c { s.leak c with results := some (evaluateLeak (s.leakFields c) p q) }).endStage c.id
        (judgeLeak (s.leakFields c) (evaluateLeak (s.leakFields c) p q))) := by
  change execLeakEvaluationEnd c s = _
  simp [execLeakEvaluationEnd, State.unlessReset, State.evaluateLeak, hreset, hrunning, hphase, hstart, hend]

/-- Settles O51: the ranges from those of the two readings, the end from the judgement of Q. -/
theorem theLeakEvaluationComparesQWithItsLimit : Obligations.TheLeakEvaluationComparesQWithItsLimit := by
  intro s c p q hreset hrunning hphase hstart hend hranges
  have hp : p.InRange := hranges p (by simp)
  have hq : q.InRange := hranges q (by simp)
  have hproduct := (compensation_product_range hp hq).2
  have hdivisor := hq.absolute_temperature.1
  have hexec := exec_leakEvaluationEnd hreset hrunning hphase hstart hend
  have hdecay := evaluateLeak_decay_le hp hq (s.leakFields c)
  dsimp only
  rw [ite_neg_zero_toNat]
  exact ⟨by omega, by omega, (compensatedEnd_range hp hq).1, (compensatedEnd_range hp hq).2, hdecay,
    leakRate_numerator_lt hdecay, fun hmeasure => by omega, leakRate_le _ _,
    fun hlimit => by rw [hexec, judgeLeak_of_lt hlimit]; rfl, fun hlimit => by rw [hexec, judgeLeak_of_le hlimit]; rfl⟩

end Sys2Proof.Machine
end

section
/-! The report of a file and its stage blocks (R149, R153, R176): fields of a concatenation, two numbers packed in one
byte, the stage block of a record and the places of the report's 63 bytes. -/

namespace Sys2Proof.Machine

/-! ### Fields of a concatenation (R173) -/

/-- The field at the front of a concatenation. -/
theorem field_append_of_length_eq {a : List Byte} {n : Nat} (h : a.length = n) (b : List Byte) :
    field (a ++ b) 0 n = a := by
  simp [field, ← h]

/-- A field past the front of a concatenation. -/
theorem field_append_of_length_le {a : List Byte} {off : Nat} (h : a.length ≤ off) (b : List Byte) (n : Nat) :
    field (a ++ b) off n = field b (off - a.length) n := by
  simp [field, List.drop_append, List.drop_eq_nil_of_le h]

/-- The whole of a byte string as a field. -/
theorem field_of_length_eq {a : List Byte} {n : Nat} (h : a.length = n) : field a 0 n = a := by
  simp [field, ← h]

/-! ### Two numbers in one byte (R176) -/

/-- Two numbers packed in one byte are its quotient and its remainder by the weight of the upper one. -/
theorem unpack_byte {m a b : Nat} (hb : b < m) (h : a * m + b < 256) :
    (BitVec.ofNat 8 (a * m + b)).toNat / m = a ∧ (BitVec.ofNat 8 (a * m + b)).toNat % m = b := by
  rw [BitVec.toNat_ofNat, Nat.mod_eq_of_lt h]
  exact (Nat.div_mod_unique (Nat.zero_lt_of_lt hb)).2 ⟨by ring, hb⟩

/-- The end code and the cause fit in their bits of the outcome byte (Table 9-12). -/
theorem unpack_outcomeByte (e : StageEnd) :
    (outcomeByte (some e)).toNat / 64 = e.code.num ∧ (outcomeByte (some e)).toNat % 64 = e.cause.num := by
  have hcode : e.code.num ≤ 3 := by cases e.code <;> decide
  have hcause : e.cause.num ≤ 21 := by cases e.cause <;> decide
  exact unpack_byte (by omega) (by omega)

/-- The hold reasons stand one per half byte, the first in the upper half, 0 where there is none (R176). -/
theorem unpack_holdNibbles {holds : List Nat} (h : ∀ r ∈ holds, r ≤ 15) {i : Nat} (hi : i < 4) :
    let pair := ((holdNibbles holds).getD (i / 2) 0).toNat
    (if i % 2 = 0 then pair / 16 else pair % 16) = holds.getD i 0 := by
  have hle (j : Nat) : holds.getD j 0 ≤ 15 := by
    rw [List.getD_eq_getElem?_getD]
    cases hj : holds[j]? with
    | none => simp
    | some r => exact h r (List.mem_of_getElem? hj)
  have hpair (j k : Nat) := unpack_byte (m := 16) (a := holds.getD j 0) (b := holds.getD k 0)
    (by have := hle k; omega) (by have := hle j; have := hle k; omega)
  interval_cases i
  · exact (hpair 0 1).1
  · exact (hpair 0 1).2
  · exact (hpair 2 3).1
  · exact (hpair 2 3).2

/-! ### A stage block (Table 9-12) -/

/-- The block of a stage without its record is 0 (R176). -/
theorem blockOf_none (t : Stage) : blockOf t none = List.replicate (4 + t.summaryLength) 0 := bytesOf_zero _

/-- A stage block has its stage's length where the last summary is the stage's. -/
theorem blockOf_length (t : Stage) {o : Option StageRecord}
    (h : ∀ r ∈ o, ∀ e ∈ r.last, ∀ x ∈ e.summary, x.stage = t) : (blockOf t o).length = 4 + t.summaryLength := by
  cases o with
  | none => simp [blockOf_none]
  | some r => exact r.block_length t (h r rfl)

/-- With no last outcome, the outcome byte and the summary's bytes are 0. -/
theorem StageRecord.drop_block_of_last_none {r : StageRecord} (h : r.last = none) (t : Stage) :
    (r.block t).drop 3 = List.replicate (t.summaryLength + 1) 0 := by
  simp [StageRecord.block, h, outcomeByte, bytesOf_zero, List.replicate_succ]

/-- After the four bytes of its head a block holds the summary of the last outcome, 0 where that has none. -/
theorem StageRecord.drop_block_of_last_some {r : StageRecord} {e : StageEnd} (h : r.last = some e) (t : Stage) :
    (r.block t).drop 4 = (e.summary.map Summary.bytes).getD (List.replicate t.summaryLength 0) := by
  obtain ⟨code, cause, summary⟩ := e
  cases summary <;> simp [StageRecord.block, h, bytesOf_zero]

/-- The summary's bytes in the block of a stage that has ended, field by field (Table 9-12). -/
theorem StageRecord.drop_block_fields {r : StageRecord} {e : StageEnd} (h : r.last = some e) (t : Stage) :
    (r.block t).drop 4 = (match e.summary with
      | none => List.replicate t.summaryLength 0
      | some (.runin torque oil bearing steps) =>
        bytesOf 2 torque ++ bytesOfInt 2 oil ++ bytesOfInt 2 bearing ++ bytesOf 1 steps
      | some (.noise drive coast none) => bytesOf 3 drive ++ bytesOf 3 coast ++ List.replicate 6 0
      | some (.noise drive coast (some w)) =>
        bytesOf 3 drive ++ bytesOf 3 coast ++ bytesOf 1 w.order ++ [w.flank.byte] ++ bytesOf 4 w.amplitude
      | some (.leak rate decay rise) => bytesOf 3 rate ++ bytesOf 3 decay ++ [if rise then 1 else 0]) := by
  rw [StageRecord.drop_block_of_last_some h]
  cases e.summary with
  | none => rfl
  | some x =>
    cases x with
    | runin torque oil bearing steps => rfl
    | noise drive coast worst => cases worst <;> rfl
    | leak rate decay rise => rfl

/-! ### The places of the report's bytes (Table 9-11) -/

/-- The stage block that a file's report carries for a stage. -/
def FileRec.stageBlock (f : FileRec) (t : Stage) : List Byte := blockOf t (f.records.map fun rs => rs.get t)

/-- The last summaries of a file are those of their stages. -/
def FileRec.SummariesFit (f : FileRec) : Prop :=
  ∀ rs ∈ f.records, ∀ t ∈ allStages, ∀ e ∈ (rs.get t).last, ∀ x ∈ e.summary, x.stage = t

/-- Every stage is among the three. -/
theorem mem_allStages (t : Stage) : t ∈ allStages := by cases t <;> decide

/-- A stage block of a report has its stage's length. -/
theorem FileRec.stageBlock_length {f : FileRec} (hfit : f.SummariesFit) (t : Stage) :
    (f.stageBlock t).length = 4 + t.summaryLength := by
  refine blockOf_length t fun r hr => ?_
  obtain ⟨rs, hrs, rfl⟩ := Option.map_eq_some_iff.1 hr
  exact hfit rs hrs t (mem_allStages t)

/-- The bytes of a report that say which file it is of: serial, variant and admission order. -/
def FileRec.identityBytes (f : FileRec) : List Byte := f.serial ++ (bytesOfWord f.variant ++ bytesOf 2 f.order)

/-- The bytes of a report from the bank number to the hold reasons. -/
def FileRec.statusBytes (f : FileRec) (overtake : Nat) : List Byte :=
  [BitVec.ofNat 8 f.bank.val, f.verdict.reportByte, boolByte f.damaged, BitVec.ofNat 8 overtake,
    BitVec.ofNat 8 f.holds.length] ++ holdNibbles f.holds

/-- A report is the two parts of its header and then its three stage blocks. -/
theorem FileRec.report_eq (f : FileRec) (overtake : Nat) : f.report overtake = f.identityBytes ++
    (f.statusBytes overtake ++ (f.stageBlock .runin ++ (f.stageBlock .noise ++ f.stageBlock .leak))) := by
  simp [FileRec.report, FileRec.identityBytes, FileRec.statusBytes, FileRec.stageBlock, StageRecords.get, bytesOf]

/-- A file's identity is 18 bytes. -/
theorem FileRec.identityBytes_length {f : FileRec} (hs : f.serial.length = 12) : f.identityBytes.length = 18 := by
  simp [FileRec.identityBytes, bytesOfWord, bytesOf_length, hs]

/-- The rest of a report's header is 7 bytes. -/
theorem FileRec.statusBytes_length (f : FileRec) (overtake : Nat) : (f.statusBytes overtake).length = 7 := by
  simp [FileRec.statusBytes, holdNibbles]

/-- The table of report verdicts on the stored verdict (R149). -/
theorem Verdict.reportByte_eq (v : Verdict) : v.reportByte =
    (match v with
      | .pass => 2
      | .rework => 3
      | .pending => 5
      | .hold => 5) := by
  cases v <;> rfl

/-- The damaged byte of a report is 1 where the stage records are absent (R5). -/
theorem FileRec.boolByte_damaged (f : FileRec) : boolByte f.damaged = if f.records = none then 1 else 0 := by
  cases h : f.records <;> simp [FileRec.damaged, boolByte, h]

section
variable {f : FileRec} (overtake : Nat) (hs : f.serial.length = 12)
include hs

/-- The identity in its places. -/
theorem FileRec.report_identity :
    field (f.report overtake) 0 12 = f.serial ∧ field (f.report overtake) 12 4 = bytesOfWord f.variant ∧
      field (f.report overtake) 16 2 = bytesOf 2 f.order := by
  simp [FileRec.report_eq, FileRec.identityBytes, field_append_of_length_eq, field_append_of_length_le, bytesOfWord,
    bytesOf_length, hs]

/-- The bytes of a report from byte 18 on are those of the rest of its header. -/
theorem FileRec.report_getD_status {i : Nat} (hi : i < 7) :
    (f.report overtake).getD (18 + i) 0 = (f.statusBytes overtake).getD i 0 := by
  rw [FileRec.report_eq, ← FileRec.identityBytes_length hs, List.getD_append_right _ _ _ _ (Nat.le_add_right _ _),
    Nat.add_sub_cancel_left, List.getD_append _ _ _ _ hi]

/-- The hold reasons of a report, from byte 23 on, stand one per half byte (R176). -/
theorem FileRec.report_holds (hholds : ∀ r ∈ f.holds, r ≤ 15) {i : Nat} (hi : i < 4) :
    let pair := ((f.report overtake).getD (23 + i / 2) 0).toNat
    (if i % 2 = 0 then pair / 16 else pair % 16) = f.holds.getD i 0 := by
  have hplace : (f.report overtake).getD (23 + i / 2) 0 = (holdNibbles f.holds).getD (i / 2) 0 := by
    rw [show 23 + i / 2 = 18 + (i / 2 + 5) by omega, FileRec.report_getD_status overtake hs (by omega)]
    rfl
  rw [hplace]
  exact unpack_holdNibbles hholds hi

/-- After its header a report is its three stage blocks. -/
theorem FileRec.drop_report :
    (f.report overtake).drop 25 = f.stageBlock .runin ++ (f.stageBlock .noise ++ f.stageBlock .leak) := by
  rw [FileRec.report_eq, ← List.append_assoc]
  exact List.drop_left' (by simp [FileRec.identityBytes_length hs, FileRec.statusBytes_length])

/-- The report of a damaged file is 0 after its header. -/
theorem FileRec.drop_report_of_damaged (h : f.records = none) :
    (f.report overtake).drop 25 = List.replicate 38 0 := by
  simp [FileRec.drop_report overtake hs, FileRec.stageBlock, h, blockOf_none, Stage.summaryLength]

variable (hfit : f.SummariesFit)
include hfit

/-- A report is 63 bytes (R176). -/
theorem FileRec.report_length : (f.report overtake).length = 63 := by
  simp [FileRec.report_eq, FileRec.identityBytes_length hs, FileRec.statusBytes_length,
    FileRec.stageBlock_length hfit, Stage.summaryLength]

/-- The three stage blocks in their places. -/
theorem FileRec.report_stageBlocks :
    field (f.report overtake) 25 11 = f.stageBlock .runin ∧ field (f.report overtake) 36 16 = f.stageBlock .noise ∧
      field (f.report overtake) 52 11 = f.stageBlock .leak := by
  simp [FileRec.report_eq, FileRec.identityBytes_length hs, FileRec.statusBytes_length,
    FileRec.stageBlock_length hfit, Stage.summaryLength, field_append_of_length_eq, field_append_of_length_le,
    field_of_length_eq]

end

/-- Settles O20: the report by its header's fields and its blocks, a block by its head and what follows it. -/
theorem theReportIsFormedFromTheStoredVerdict : Obligations.TheReportIsFormedFromTheStoredVerdict := by
  unfold Obligations.TheReportIsFormedFromTheStoredVerdict
  intro size
  have hsize (t : Stage) : size t = 4 + t.summaryLength := by cases t <;> rfl
  refine ⟨fun f overtake hs hfit => ?_, fun t => hsize t ▸ blockOf_none t,
    fun t r hr hattempts hreopens => ?_, fun serial _ => by simp [strayReport, bytesOf_zero]⟩
  · have hstatus {i : Nat} (hi : i < 7) := FileRec.report_getD_status overtake hs hi
    obtain ⟨hserial, hvariant, horder⟩ := FileRec.report_identity overtake hs
    have hbank := hstatus (i := 0) (by decide)
    have hverdict := (hstatus (i := 1) (by decide)).trans f.verdict.reportByte_eq
    have hdamaged := (hstatus (i := 2) (by decide)).trans f.boolByte_damaged
    have hovertake := hstatus (i := 3) (by decide)
    have hcount := hstatus (i := 4) (by decide)
    obtain ⟨hrunin, hnoise, hleak⟩ := FileRec.report_stageBlocks overtake hs hfit
    exact ⟨FileRec.report_length overtake hs hfit, hserial, hvariant, horder, hbank, hverdict, hdamaged, hovertake,
      hcount, fun _ hholds _ hi => FileRec.report_holds overtake hs hholds hi, hrunin, hnoise, hleak,
      FileRec.drop_report_of_damaged overtake hs⟩
  · obtain ⟨hreopened, hattempted⟩ := unpack_byte (m := 16) (a := r.reopens) (b := r.attempts) (by omega) (by omega)
    refine ⟨(r.block_length t hr).trans (hsize t).symm, rfl, rfl, hattempted, hreopened, fun hlast => ?_,
      fun e hlast => ?_⟩
    · rw [show size t - 3 = t.summaryLength + 1 by have := hsize t; omega]
      exact StageRecord.drop_block_of_last_none hlast t
    · have houtcome : (blockOf t (some r)).getD 3 0 = outcomeByte (some e) := congrArg outcomeByte hlast
      obtain ⟨hcode, hcause⟩ := unpack_outcomeByte e
      rw [houtcome, show size t - 4 = t.summaryLength by have := hsize t; omega]
      exact ⟨hcode, hcause, StageRecord.drop_block_fields hlast t⟩

end Sys2Proof.Machine
end

section
/-! The switches (R156, R183), the arbiter's scheme and the ports' priorities (R168): what their bytes name, what each
item makes of them, and the roles they are permitted. -/

namespace Sys2Proof.Machine

/-! ### The bytes that name a setting, a scheme and a number below 8 (R173) -/

/-- A byte names the setting whose number it is. -/
theorem settingOf_eq_some_iff (b : Byte) (on : Bool) : settingOf b = some on ↔ b.toNat = on.toNat := by
  unfold settingOf
  split
  · next h0 => subst h0; cases on <;> simp
  · next h0 =>
    split
    · next h1 => subst h1; cases on <;> simp
    · next h1 => cases on <;> simp [← BitVec.toNat_inj] at h0 h1 ⊢ <;> omega

/-- A byte above 1 names no setting. -/
theorem settingOf_of_one_lt {b : Byte} (h : 1 < b.toNat) : settingOf b = none :=
  Option.eq_none_iff_forall_ne_some.2 fun on hon => by
    have hb : b.toNat = on.toNat := (settingOf_eq_some_iff b on).1 hon
    have := on.toNat_le
    omega

/-- A scheme's byte names that scheme. -/
theorem Scheme.ofByte_byte (x : Scheme) : Scheme.ofByte x.byte = some x := by cases x <;> rfl

/-- A byte that is no scheme's names none. -/
theorem Scheme.ofByte_of_forall_ne {b : Byte} (h : ∀ x : Scheme, x.byte ≠ b) : Scheme.ofByte b = none := by
  simp [Scheme.ofByte, h]

/-- A number above 7 names neither a port nor a priority. -/
theorem below8_of_seven_lt {n : Nat} (h : 7 < n) : below8 n = none := dif_neg (by omega)

/-! ### SET STRAY and SET MULTI (R156, R183) -/

section
variable (s : State) (p : PortId) {b : Byte}

/-- SET STRAY refuses a byte that names no setting (R156). -/
theorem setStrayItem_range (h : 1 < b.toNat) : setStrayItem p [b] s = s.reply .range := by
  simp [setStrayItem, settingOf_of_one_lt h]

/-- SET STRAY replaces the switch and answers the setting before (R156). -/
theorem setStrayItem_done {on : Bool} (h : b.toNat = on.toNat) : setStrayItem p [b] s =
    ⟨{ s with engine := { s.engine with strayEnabled := on } }, .done, [boolByte s.engine.strayEnabled]⟩ := by
  simp [setStrayItem, (settingOf_eq_some_iff b on).2 h]

/-- SET MULTI refuses a byte that names no setting (R183). -/
theorem setMultiItem_range (h : 1 < b.toNat) : setMultiItem p [b] s = s.reply .range := by
  simp [setMultiItem, settingOf_of_one_lt h]

/-- SET MULTI replaces the switch and answers the setting before (R183). -/
theorem setMultiItem_done {on : Bool} (h : b.toNat = on.toNat) : setMultiItem p [b] s =
    ⟨{ s with router := { s.router with multi := on } }, .done, [boolByte s.router.multi]⟩ := by
  simp [setMultiItem, (settingOf_eq_some_iff b on).2 h]

/-! ### SET ARBITER (R168) -/

/-- SET ARBITER refuses a byte that names no scheme (R168). -/
theorem setArbiterItem_range (h : ∀ x : Scheme, x.byte ≠ b) : setArbiterItem p [b] s = s.reply .range := by
  simp [setArbiterItem, Scheme.ofByte_of_forall_ne h]

/-- SET ARBITER replaces the scheme (R168). -/
theorem setArbiterItem_done (x : Scheme) : setArbiterItem p [x.byte] s =
    ({ s with arbiter := { s.arbiter with scheme := x } } : State).reply .done := by
  simp [setArbiterItem, Scheme.ofByte_byte]

end

/-! ### SET PRIORITY (R168) -/

/-- The priority of one port replaced. -/
def State.setPriority (s : State) (q : PortId) (n : Fin 8) : State :=
  { s with arbiter := { s.arbiter with priorities := s.arbiter.priorities.set q.val n q.isLt } }

/-- The replaced priority is the given one. -/
@[simp] theorem State.priority_setPriority_self (s : State) (q : PortId) (n : Fin 8) :
    (s.setPriority q n).priority q = n.val := by
  simp [State.setPriority, State.priority]

/-- The priorities of the other ports stay. -/
theorem State.priority_setPriority_of_ne (s : State) {q x : PortId} (h : x ≠ q) (n : Fin 8) :
    (s.setPriority q n).priority x = s.priority x := by
  have hval : q.val ≠ x.val := fun he => h (Fin.ext he.symm)
  simp [State.setPriority, State.priority, Vector.getElem_set_ne, hval]

/-- SET PRIORITY refuses what names no port or no priority (R168). -/
theorem setPriorityItem_range (s : State) (p : PortId) {port priority : Byte}
    (h : 7 < port.toNat ∨ 7 < priority.toNat) : setPriorityItem p [port, priority] s = s.reply .range := by
  rcases h with h | h
  · simp [setPriorityItem, byteAt, below8_of_seven_lt h]
  · simp [setPriorityItem, byteAt, below8_of_seven_lt h]

/-- SET PRIORITY replaces the priority of the port it names (R168). -/
theorem setPriorityItem_done (s : State) (p : PortId) {port priority : Byte} {q : PortId} {n : Fin 8}
    (hq : port.toNat = q.val) (hn : priority.toNat = n.val) :
    setPriorityItem p [port, priority] s = (s.setPriority q n).reply .done := by
  simp [setPriorityItem, byteAt, (below8_eq_some_iff _ q).2 hq, (below8_eq_some_iff _ n).2 hn, State.setPriority]

/-! ### The four requests -/

/-- SET STRAY is served by its item. -/
theorem exec_setStray (s : State) : exec .setStray s = .next (s.serve .setStray setStrayItem) := rfl

/-- SET MULTI is served by its item. -/
theorem exec_setMulti (s : State) : exec .setMulti s = .next (s.serve .setMulti setMultiItem) := rfl

/-- SET ARBITER is served by its item. -/
theorem exec_setArbiter (s : State) : exec .setArbiter s = .next (s.serve .setArbiter setArbiterItem) := rfl

/-- SET PRIORITY is served by its item. -/
theorem exec_setPriority (s : State) : exec .setPriority s = .next (s.serve .setPriority setPriorityItem) := rfl

/-- The four requests are the supervisor's alone (R161, Table 9-2). -/
theorem Request.permitted_setting_iff {q : Request} (hq : q ∈ [Request.setStray, .setMulti, .setArbiter, .setPriority])
    (r : Role) : q.permitted r = true ↔ r = .supervisor := by
  simp only [List.mem_cons, List.not_mem_nil, or_false] at hq
  rcases hq with rfl | rfl | rfl | rfl <;> simp [Request.permitted]

/-- Settles O22: each request by what its bytes name. -/
theorem switchesSchemeAndPrioritiesAreReplaced : Obligations.SwitchesSchemeAndPrioritiesAreReplaced := by
  refine ⟨fun s p h b hp => ⟨fun hg => ?stray, fun hg => ?multi⟩, fun q hq r => Request.permitted_setting_iff hq r,
    fun s p h => ⟨fun hg b hp => ?arbiter, fun hg port priority hp => ?priority⟩⟩
  case stray =>
    rw [exec_setStray]
    exact ⟨fun hb => State.serve_refuses hg (hp ▸ setStrayItem_range _ p hb),
      fun on hb => State.serve_answers hg (hp ▸ setStrayItem_done (s.granting p) p hb)⟩
  case multi =>
    rw [exec_setMulti]
    exact ⟨fun hb => State.serve_refuses hg (hp ▸ setMultiItem_range _ p hb),
      fun on hb => State.serve_answers hg (hp ▸ setMultiItem_done (s.granting p) p hb)⟩
  case arbiter =>
    rw [exec_setArbiter]
    refine ⟨fun hb => State.serve_refuses hg (hp ▸ setArbiterItem_range _ p hb), ?_⟩
    rintro x rfl
    exact State.serve_answers hg (hp ▸ setArbiterItem_done (s.granting p) p x)
  case priority =>
    rw [exec_setPriority]
    refine ⟨fun hbad => State.serve_refuses hg (hp ▸ setPriorityItem_range _ p hbad), fun q n hq hn => ?_⟩
    have hdone := setPriorityItem_done (s.granting p) p hq hn
    exact ⟨(s.granting p).setPriority q n, State.serve_answers hg (hp ▸ hdone), State.priority_setPriority_self _ q n,
      fun x hx => State.priority_setPriority_of_ne _ hx n, rfl⟩

end Sys2Proof.Machine
end

section
/-! The moves of the machine: what a command can do to the state, cut into moves that each keep the standing conditions.
Every command is a chain of moves (exec_moves); that a standing condition is kept is then shown move by move. -/

namespace Sys2Proof.Machine

/-! ### What no standing condition speaks of -/

/-- The settings: what the standing conditions do not speak of. -/
structure Settings where
  resetLow : Bool
  scheme : Scheme
  priorities : Vector (Fin 8) 8
  lastGranted : PortId
  strayEnabled : Bool
  fallback : Option BankId
  audio : AudioConfig
  router : Router

/-- The settings of a state. -/
def State.settings (s : State) : Settings :=
  ⟨s.resetLow, s.arbiter.scheme, s.arbiter.priorities, s.arbiter.lastGranted, s.engine.strayEnabled, s.store.fallback,
    s.audio, s.router⟩

/-- The state with other settings. -/
def State.withSettings (s : State) (x : Settings) : State :=
  { s with
    resetLow := x.resetLow
    arbiter := { s.arbiter with scheme := x.scheme, priorities := x.priorities, lastGranted := x.lastGranted }
    engine := { s.engine with strayEnabled := x.strayEnabled }
    store := { s.store with fallback := x.fallback }
    audio := x.audio
    router := x.router }

/-- The state with other ports. -/
def State.withPorts (s : State) (v : Vector Port 8) : State := { s with ports := v }

/-- The state with another input section. -/
def State.withInput (s : State) (i : InputSection) : State := { s with input := i }

/-- The state with another noise analyzer. -/
def State.withNoise (s : State) (a : Analyzer) : State := { s with noise := a }

/-- The state with other variant windows. -/
def State.withWindows (s : State) (w : Vector Window 8) : State := { s with store := { s.store with windows := w } }

/-- The revolution buffers and accumulator banks of an analyzer are in order: the part of QueueInv about them. -/
def Analyzer.ok (a : Analyzer) : Prop :=
  a.x.ok ∧ a.y.ok ∧ (a.buffer a.filling).state ≠ .folding ∧ a.drive.slots.length = 128 ∧ a.coast.slots.length = 128

/-- The channel bound to a slot's file, if any, ended engine-side with a cause: what FORCE RETIRE and damage do to it
(R63, R64). -/
def State.freed (s : State) (i : SlotId) (cause : Cause) : State :=
  match s.boundTo (s.handleOf i) with
  | some c => s.engineEnd c cause
  | none => s

/-- The damage of a file: its records lost, its channel ended, its verdict recomputed (R180). -/
theorem State.damage_eq (s : State) (i : SlotId) (f : FileRec) :
    s.damage i f = (((s.setErrors i []).setFile i { f with records := none }).freed i .damaged).recompute i := rfl

/-! ### The moves -/

/-- One move of the machine, with what its command has checked before it. -/
inductive Move : State → State → Prop
  | ports (s : State) (v : Vector Port 8) (hlinks : LinkInv s → LinkInv (s.withPorts v)) : Move s (s.withPorts v)
  | settings (s : State) (x : Settings) : Move s (s.withSettings x)
  | disturb (s : State) (ds : Disturbances) : Move s (s.disturb ds)
  | errors (s : State) (i : SlotId) (errs : RecordErrors) (hsub : errs.Sublist (s.slot i).errors) :
      Move s (s.setErrors i errs)
  | damage (s : State) (i : SlotId) (f : FileRec) (hf : s.file i = some f) : Move s (s.damage i f)
  | engineEnd (s : State) (c : ChannelId) (cause : Cause) : Move s (s.engineEnd c cause)
  | post (s : State) (c : ChannelId) (b : Binding) (kind : PostingKind) (hb : (s.chan c).binding = some b)
      (hstate : (s.chan c).state = .claimed ∨ (s.chan c).state = .running)
      (hlapse : kind = .lapse → (s.chan c).state = .claimed)
      (hended : ∀ e, kind = .ended e → e.okFor c.stage = true) : Move s (s.post c b kind)
  | applyEnd (s : State) (item : CaptureItem) (p : Posting) (rest : List Posting) (e : StageEnd)
      (hp : s.arbiter.postings = p :: rest) (hk : p.kind = .ended e) :
      Move s (s.applyPosting item p fun u => u.applyEnd p e)
  | applyLapse (s : State) (item : CaptureItem) (p : Posting) (rest : List Posting)
      (hp : s.arbiter.postings = p :: rest) (hk : p.kind = .lapse) :
      Move s (s.applyPosting item p fun u => u.applyLapse p)
  | release (s : State) (i : SlotId) (f : FileRec) (hf : s.file i = some f) (hactive : f.activeStage = none) :
      Move s (s.retire i f)
  | forceRetire (s : State) (i : SlotId) (f : FileRec) (hf : (s.freed i .forced).file i = some f) :
      Move s ((s.freed i .forced).retire i f)
  | admitFile (s : State) (i : SlotId) (serial : Serial) (v : Word) (b : BankId) (hserial : serial.all isSerialByte = true)
      (hnew : s.find serial = none) (hfree : s.file i = none) (hready : (s.bank b).isReady = true) :
      Move s ((s.openFile i serial v b).recompute i)
  | holds (s : State) (i : SlotId) (f : FileRec) (holds : List Nat) (hf : s.file i = some f)
      (hok : f.ok → holds.length ≤ Config.holdLimit ∧ holds.Nodup ∧ ∀ r ∈ holds, 1 ≤ r ∧ r ≤ 15) :
      Move s ((s.setFile i { f with holds := holds }).recompute i)
  | reopen (s : State) (i : SlotId) (f : FileRec) (rs : StageRecords) (t : Stage) (hf : s.file i = some f)
      (hrs : f.records = some rs) (hfailed : (rs.get t).state = .failed)
      (hlimit : (rs.get t).reopens < Config.reopenLimit) :
      Move s ((s.setFile i (f.modStage t StageRecord.reopen)).recompute i)
  | claim (s : State) (i : SlotId) (f : FileRec) (rs : StageRecords) (t : Stage) (c : ChannelId) (hf : s.file i = some f)
      (hrs : f.records = some rs) (hopen : (rs.get t).state = .opened) (hother : rs.otherActive t = false)
      (hstage : c.stage = t) (hidle : (s.chan c).state = .idle) : Move s ((s.bindChannel i f t c).recompute i)
  | start (s : State) (c : ChannelId) (b : Binding) (hb : (s.chan c).binding = some b)
      (hclaimed : (s.chan c).state = .claimed) : Move s (s.startStage c b)
  | bank (s : State) (b : BankId) (k : Bank)
      (hok : (s.bank b).ok → k.ok ∧ (s.bank b).users = 0 ∧ k.users = 0) : Move s (s.setBank b k)
  | cursor (s : State) (cur : Option Cursor) (hok : StoreInv s → ∀ x ∈ cur, x.ok) : Move s (s.setCursor cur)
  | windows (s : State) (w : Vector Window 8)
      (hok : (∀ x ∈ s.store.windows.toList, x.base &&& ~~~x.mask = 0) → ∀ x ∈ w.toList, x.base &&& ~~~x.mask = 0) :
      Move s (s.withWindows w)
  | input (s : State) (i : InputSection)
      (hrest : (s.chan .n).state = .running ∨ (s.input = .stopped → i = .stopped))
      (hfifo : s.input.fifo.length ≤ Config.fifoLimit → i.fifo.length ≤ Config.fifoLimit) : Move s (s.withInput i)
  | noise (s : State) (a : Analyzer) (hrunning : (s.chan .n).state = .running)
      (hphase : s.noise.phase.isSome = true → a.phase.isSome = true)
      (hevaluate : a.phase = some .evaluate ↔ s.noise.phase = some .evaluate) (hok : s.noise.ok → a.ok) :
      Move s (s.withNoise a)
  | noiseEvaluates (s : State) (hrunning : (s.chan .n).state = .running) : Move s s.beginEvaluation
  | monitor (s : State) (c : RunInCh) (m : Monitor) (hrunning : (s.chan c.id).state = .running)
      (htimer : (s.monitor c).stepTimer.isSome = true → m.stepTimer.isSome = true)
      (hqueue : (s.monitor c).queue.length ≤ Config.readingLimit → m.queue.length ≤ Config.readingLimit) :
      Move s (s.setMonitor c m)
  | leak (s : State) (c : LeakCh) (a : LeakAnalyzer) (hrunning : (s.chan c.id).state = .running)
      (hphase : (s.leak c).phase.isSome = true → a.phase.isSome = true)
      (htimers : (s.leak c).timersOk →
        a.timersOk ∧ (a.phase = some .evaluate ↔ (s.leak c).phase = some .evaluate))
      (hqueue : (s.leak c).queue.length ≤ Config.readingLimit → a.queue.length ≤ Config.readingLimit) :
      Move s (s.setLeak c a)
  | leakEvaluates (s : State) (c : LeakCh) (a : LeakAnalyzer) (hrunning : (s.chan c.id).state = .running)
      (hphase : a.phase = some .evaluate) (htimers : (s.leak c).timersOk → a.timersOk) (hqueue : a.queue = []) :
      Move s ((s.setLeak c a).setChan c.id { s.chan c.id with stageTimer := none })
  | settle (s : State) (hunbound : ∀ c : ChannelId, (s.chan c).binding = none) : Move s s.settleReset
  | powerOn (s : State) (low : Bool) : Move s (.powerOn s.pending low)

/-- A chain of moves. -/
abbrev Moves : State → State → Prop := Relation.ReflTransGen Move

/-- A move alone is a chain of moves. -/
theorem Move.moves {s t : State} (h : Move s t) : Moves s t := .single h

/-! ### Moves of the ports (R158 to R163) -/

/-- Ports that keep their roles and stay in order keep the links in order. -/
theorem LinkInv.withPorts {s : State} (h : LinkInv s) (v : Vector Port 8)
    (hv : ∀ p : PortId, v[p].role = (s.port p).role ∧ ((s.port p).ok → v[p].ok)) : LinkInv (s.withPorts v) := by
  obtain ⟨hsup, hrole, hok⟩ := h
  have hport : ∀ p, (s.withPorts v).port p = v[p] := fun p => rfl
  refine ⟨fun p => ?_, fun p q => ?_, fun p => ?_⟩
  · rw [hport, (hv p).1]; exact hsup p
  · rw [hport, hport, (hv p).1, (hv q).1]; exact hrole p q
  · rw [hport]; exact (hv p).2 (hok p)

/-- Ports that keep their roles and stay in order are a move. -/
theorem Moves.withPorts (s : State) (v : Vector Port 8)
    (hv : ∀ p : PortId, v[p].role = (s.port p).role ∧ ((s.port p).ok → v[p].ok)) : Moves s (s.withPorts v) :=
  (Move.ports s v fun h => h.withPorts v hv).moves

/-- A port that keeps its role and stays in order is a move. -/
theorem Moves.setPort (s : State) (p : PortId) (q : Port) (hrole : q.role = (s.port p).role)
    (hok : (s.port p).ok → q.ok) : Moves s (s.setPort p q) := by
  refine Moves.withPorts s (s.ports.set p.val q p.isLt) fun x => ?_
  have hx : (s.ports.set p.val q p.isLt)[x] = (s.setPort p q).port x := rfl
  rw [hx, State.port_setPort]
  split
  · next hp => subst hp; exact ⟨hrole, hok⟩
  · exact ⟨rfl, id⟩

/-- A port stays in order where its assembly and held request stay and it has no more unsent notices. -/
theorem Port.ok_of_tx {q r : Port} (hrx : r.rx = q.rx) (hheld : r.held = q.held)
    (hn : q.unsentNotices ≤ Config.noticeLimit → r.unsentNotices ≤ Config.noticeLimit) (h : q.ok) : r.ok := by
  obtain ⟨h1, h2, h3⟩ := h
  exact ⟨hrx ▸ h1, hn h2, hheld ▸ h3⟩

/-- A port stays in order when an answer or a directive joins its transmit side. -/
theorem Port.ok_hand {q : Port} (f : Frame) (hf : f.kind ≠ .notice) (h : q.ok) : (q.hand f).ok :=
  Port.ok_of_tx (q := q) rfl rfl (Port.unsentNotices_hand q f hf).le.trans h

/-- A port stays in order when a notice is handed to it (R160). -/
theorem Port.ok_handNotice {q : Port} (f : Frame) (h : q.ok) : (q.handNotice f).ok :=
  Port.ok_of_tx (Port.handNotice_rx q f) (Port.handNotice_held q f) (Port.unsentNotices_handNotice q f) h

/-- An answer or a directive handed to a port is a move. -/
theorem Moves.hand (s : State) (p : PortId) (f : Frame) (hf : f.kind ≠ .notice) : Moves s (s.hand p f) :=
  Moves.setPort s p _ rfl (Port.ok_hand f hf)

/-- A directive is a move. -/
theorem Moves.direct (s : State) (c : ChannelId) (d : Directive) (payload : List Byte) :
    Moves s (s.direct c d payload) := by
  unfold State.direct
  split
  · exact Moves.hand s _ _ (by simp)
  · exact .refl

/-- An answer is a move. -/
theorem Moves.answer (s : State) (p : PortId) (tag : Byte) (code : AnswerCode) (data : List Byte) :
    Moves s (s.answer p tag code data) := by
  refine Moves.setPort s p _ rfl fun h => ?_
  obtain ⟨h1, h2, _⟩ := Port.ok_hand (answerFrame tag code data) (by simp [answerFrame]) h
  exact ⟨h1, h2, by simp⟩

/-- A raised notice is a move. -/
theorem Moves.raise (s : State) (k : NoticeKind) (name : List Byte) (detail : Byte) :
    Moves s (s.raise k name detail) := by
  have hv : Moves s (s.withPorts (s.raise k name detail).ports) := by
    refine Moves.withPorts s _ fun p => ?_
    have hp : (s.raise k name detail).ports[p] = (s.raise k name detail).port p := rfl
    rw [hp, State.port_raise]
    split
    · exact ⟨Port.handNotice_role _ _, Port.ok_handNotice _⟩
    · exact ⟨rfl, id⟩
  have he : s.withPorts (s.raise k name detail).ports = s.raise k name detail := by
    unfold State.raise State.withPorts; split <;> rfl
  exact he ▸ hv

/-- The grant of a request is a move. -/
theorem Moves.granting (s : State) (p : PortId) : Moves s (s.granting p) :=
  (Move.settings s { s.settings with lastGranted := p }).moves

/-! ### Moves of a granted request (R163, R167) -/

/-- What has an effect only while RESET# is high is a chain of moves where its effect is. -/
theorem Moves.unlessReset {s : State} {f : State → State} (h : Moves s (f s)) : Moves s (s.unlessReset f) := by
  unfold State.unlessReset
  split
  · exact .refl
  · exact h

/-- A request row is a chain of moves where its item is. -/
theorem Moves.serve (s : State) (r : Request) (item : PortId → List Byte → State → Reply)
    (hitem : ∀ p payload u, Moves u (item p payload u).state) : Moves s (s.serve r item) := by
  refine Moves.unlessReset ?_
  dsimp only
  split
  · split
    · exact ((Moves.granting s _).trans (hitem _ _ _)).trans (Moves.answer _ _ _ _ _)
    · exact .refl
  · exact .refl

/-- A request row that reads the record memory is a chain of moves where its item is. -/
theorem Moves.serveReading (s : State) (r : Request) (ds : Disturbances) (item : PortId → List Byte → State → Reply)
    (hitem : ∀ p payload u, Moves u (item p payload u).state) : Moves s (s.serveReading r ds item) :=
  Moves.serve s r _ fun p payload u => (Move.disturb u ds).moves.trans (hitem p payload _)

/-- The read of a file is a chain of moves: the capture of an error with its notice, then the words written back or the
file damaged (R178 to R183). -/
theorem Moves.readFile (s : State) (item : CaptureItem) (i : SlotId) : Moves s (s.readFile item i) := by
  have hcapture (errs) : Moves s (s.captureError i item errs) := by
    let filled : Capture := ⟨errorKind errs, i, errorSyndrome errs, item⟩
    have hset : Moves s { s with router := { s.router with capture := some (s.router.capture.getD filled) } } :=
      (Move.settings s { s.settings with
        router := { s.router with capture := some (s.router.capture.getD filled) } }).moves
    unfold State.captureError
    dsimp only
    split
    · exact hset.trans (Moves.raise _ _ _ _)
    · exact hset
  unfold State.readFile
  dsimp only
  split
  · next f hf =>
    split
    · exact .refl
    · split
      · exact (hcapture _).trans (Move.errors _ i _ (by simp [writtenBack])).moves
      · exact (hcapture _).trans (Move.damage _ i f (by simpa using hf)).moves
  · exact .refl

/-- A request by serial is a chain of moves where what follows the read is. -/
theorem Moves.onSerial (s : State) (r : Request) (serial : Serial) (go : SlotId → FileRec → State → Reply)
    (hgo : ∀ i f u, u.file i = some f → Moves u (go i f u).state) : Moves s (s.onSerial r serial go).state := by
  unfold State.onSerial
  split
  · exact .refl
  · next i _ =>
    dsimp only
    split
    · next f hf => exact (Moves.readFile s _ i).trans (hgo i f _ hf)
    · exact Moves.readFile s _ i

/-- A request by handle is a chain of moves where what follows the read is. -/
theorem Moves.onHandle (s : State) (r : Request) (bytes : List Byte) (go : Handle → State → Reply)
    (hgo : ∀ h u, Moves u (go h u).state) : Moves s (s.onHandle r bytes go).state := by
  unfold State.onHandle
  split
  · dsimp only
    split
    · exact (Moves.readFile s _ _).trans (hgo _ _)
    · exact .refl
  · exact .refl

end Sys2Proof.Machine
end

section
/-! Every command is a chain of moves: the links, the recipe store, the settings and the axle files. -/

namespace Sys2Proof.Machine

/-! ### Links (R158 to R165) -/

/-- An assembly goes on within its bounds after a byte (R159). -/
theorem rxOk_rxByte (rx : Option (List Byte)) (b : LineByte) : rxOk (rxByte rx b).1 := by
  have hnone : rxOk none := fun bytes h => nomatch h
  have hassembled (bytes : List Byte) : rxOk (assembled bytes).1 := by
    unfold assembled
    split
    · next h => intro x hx; cases hx; exact .inl h
    · split
      · exact hnone
      · next hlen =>
        split
        · next h => intro x hx; cases hx; exact .inr ⟨Nat.le_of_not_lt hlen, h⟩
        · exact hnone
  unfold rxByte
  split
  · repeat' split
    · exact hnone
    · intro x hx; cases hx; exact .inl (by simp)
    all_goals exact hnone
  · split
    · exact hassembled _
    · exact hnone

/-- A port set garbled is a move. -/
theorem Moves.setGarbled (s : State) (p : PortId) : Moves s (s.setGarbled p) :=
  Moves.setPort s p _ rfl id

/-- What a port does with a received request is a move (R161). -/
theorem Moves.takeRequest (s : State) (p : PortId) (tag code : Byte) (payload : List Byte) :
    Moves s (s.takeRequest p tag code payload) := by
  have hanswer (code) : Moves s (s.ownAnswer p tag code) := Moves.hand s p _ (by simp [answerFrame])
  unfold State.takeRequest
  split
  · exact hanswer _
  · split
    · exact hanswer _
    · split
      · exact hanswer _
      · split
        · exact hanswer _
        · next r _ _ hlength =>
          refine Moves.setPort s p _ rfl fun h => ⟨h.1, h.2.1, ?_⟩
          rintro _ ⟨⟩
          simpa using hlength

/-- The end of a stage from its CLAIMED or RUNNING channel is a chain of moves: its posting, then the END directive
(R57, R66). -/
theorem Moves.endStage (s : State) (c : ChannelId) (e : StageEnd)
    (hstate : (s.chan c).state = .claimed ∨ (s.chan c).state = .running) (he : e.okFor c.stage = true) :
    Moves s (s.endStage c e) := by
  unfold State.endStage
  split
  · next b hb =>
    have hpost := Move.post s c b (.ended e) hb hstate (by simp) (by rintro _ ⟨⟩; exact he)
    exact hpost.moves.trans (Moves.direct _ _ _ _)
  · exact .refl

/-- An end that is cut short is complete for every stage (R57). -/
theorem StageEnd.okFor_cutShort (cause : Cause) (t : Stage) : (⟨.cutShort, cause, none⟩ : StageEnd).okFor t = true :=
  rfl

/-- A run-in reading queued or counted is a chain of moves (R70, R71). -/
theorem Moves.queueRunIn (s : State) (c : RunInCh) (r : RunInReading) (hr : (s.chan c.id).state = .running) :
    Moves s (s.queueRunIn c r) := by
  have hcounted : Moves s (s.setMonitor c { s.monitor c with invalid := countAll (s.monitor c).invalid }) :=
    .single (.monitor s c _ hr id id)
  unfold State.queueRunIn
  dsimp only
  split
  · next h => exact .single (.monitor s c _ hr id fun _ => by simpa using h)
  · split
    · exact hcounted.trans (Moves.endStage _ _ _ (.inr (by cases c <;> exact hr)) (StageEnd.okFor_cutShort _ _))
    · exact hcounted

/-- A leak reading queued is a move (R128). -/
theorem Moves.queueLeak (s : State) (c : LeakCh) (r : LeakReading) (hr : (s.chan c.id).state = .running) :
    Moves s (s.queueLeak c r) := by
  unfold State.queueLeak
  dsimp only
  split
  · next h => exact .single (.leak s c _ hr id (fun h => ⟨h, .rfl⟩) fun _ => by simpa using h.2)
  · exact .refl

/-- What a port does with a received frame is a chain of moves (R159, R161, R165). -/
theorem Moves.takeFrame (s : State) (p : PortId) (f : Frame) : Moves s (s.takeFrame p f) := by
  have hreading (payload) : Moves s (s.takeReading p payload) := by
    unfold State.takeReading
    split
    · split
      · exact Moves.queueRunIn s .a _ ‹_›
      · exact .refl
    · split
      · exact Moves.queueRunIn s .b _ ‹_›
      · exact .refl
    · split
      · exact Moves.queueLeak s .a _ ‹_›
      · exact .refl
    · split
      · exact Moves.queueLeak s .b _ ‹_›
      · exact .refl
    all_goals exact .refl
  unfold State.takeFrame
  split
  · exact Moves.takeRequest s p _ _ _
  · split
    · exact Moves.setGarbled s p
    · exact hreading _
  all_goals exact Moves.setGarbled s p

/-- The bytes of a line are a chain of moves (R159). -/
theorem Moves.receiveLine (s : State) (p : PortId) (line : List LineByte) : Moves s (s.receiveLine p line) := by
  have hbyte (u : State) (b : LineByte) : Moves u (u.receiveByte p b) := by
    have hrx : Moves u (u.setPort p { u.port p with rx := (rxByte (u.port p).rx b).1 }) :=
      Moves.setPort u p _ rfl fun h => ⟨rxOk_rxByte _ b, h.2⟩
    unfold State.receiveByte
    dsimp only
    split
    · exact hrx
    · exact hrx.trans (Moves.setGarbled _ p)
    · exact hrx.trans (Moves.takeFrame _ p _)
  induction line generalizing s with
  | nil => exact .refl
  | cons b bs ih => exact (hbyte s b).trans (ih _)

/-! ### The recipe store (R28 to R43) -/

/-- The contents of words 0 have their sizes (R26). -/
theorem Contents.shaped_zero : Contents.zero.shaped := by
  unfold Contents.shaped; decide

/-- A bank that is not READY has no users (R27). -/
theorem Bank.ok.users_of_not_ready {k : Bank} (h : k.ok) (hr : k.isReady = false) : k.users = 0 := by
  by_contra hu
  exact absurd (h.2.1 hu) (by simp [hr])

/-- An OPEN bank has no users (R27). -/
theorem Bank.ok.users_of_opened {k : Bank} (h : k.ok) (hs : k.state = .opened) : k.users = 0 :=
  h.users_of_not_ready (by simp [Bank.isReady, hs])

/-- OPEN BANK is a move (R28). -/
theorem Moves.openBankItem (p : PortId) (payload : List Byte) (s : State) :
    Moves s (openBankItem p payload s).state := by
  unfold Machine.openBankItem
  split
  · exact .refl
  · next b _ =>
    dsimp only
    split
    · next hempty =>
      refine .single (.bank s b _ fun hok => ?_)
      have husers := hok.users_of_not_ready (by simp [Bank.isReady, hempty])
      exact ⟨⟨Contents.shaped_zero, fun h => absurd husers h, nofun, nofun⟩, husers, husers⟩
    · split
      · next husers =>
        refine .single (.bank s b _ fun hok => ?_)
        exact ⟨⟨hok.1, fun h => absurd husers h, nofun, nofun⟩, husers, husers⟩
      · exact .refl
    · exact .refl

/-- The entry a READ cursor loads has its table's width, or none past the table's end (R39, R41). -/
theorem length_loadEntry {c : Contents} (h : c.shaped) (t : Table) (i : Nat) :
    (loadEntry c t i).length = if i < t.entries then t.width else 0 := by
  unfold loadEntry
  split
  · next hi =>
    have hlen : i < (c.table t).length := by rw [Contents.shaped_length h]; exact hi
    have hmem : c.entry t i ∈ c.table t := by
      simp [Contents.entry, List.getD_eq_getElem?_getD, List.getElem?_eq_getElem hlen]
    exact (h t (by cases t <;> simp)).2 _ hmem
  · rfl

/-- A READ cursor whose staging was just loaded is in order (R38). -/
theorem Cursor.ok_loaded {c : Contents} (h : c.shaped) (b : BankId) (t : Table) {i : Nat} (hi : i ≤ t.entries) :
    (⟨b, t, i, .read, loadEntry c t i, 0⟩ : Cursor).ok := by
  refine ⟨hi, ?_⟩
  have hl := length_loadEntry h t i
  dsimp only
  split
  · next hlt => exact ⟨by simpa [hlt] using hl, t.width_pos⟩
  · next hlt => exact ⟨by simpa [hlt] using hl, rfl⟩

/-- A WRITE cursor with empty staging is in order (R38). -/
theorem Cursor.ok_emptied {cur : Cursor} (h : cur.ok) (hw : cur.direction = .write) :
    ({ cur with staging := [] } : Cursor).ok := by
  obtain ⟨hi, hd⟩ := h
  rw [hw] at hd
  refine ⟨hi, ?_⟩
  dsimp only
  rw [hw]
  exact ⟨cur.table.width_pos, hd.2⟩

/-- A bank cleared is a chain of moves: the bank, then the cursor (R29). -/
theorem Moves.clearBank (s : State) (b : BankId) (hfree : (s.bank b).ok → (s.bank b).users = 0) :
    Moves s (s.clearBank b) := by
  let cleared := s.setBank b { s.bank b with state := .empty, contents := .zero }
  have hbank : Moves s cleared := by
    refine .single (.bank s b _ fun hok => ?_)
    exact ⟨⟨Contents.shaped_zero, fun h => absurd (hfree hok) h, fun _ => rfl, nofun⟩, hfree hok, hfree hok⟩
  refine hbank.trans (Move.cursor cleared _ fun hstore x hx => ?_).moves
  obtain ⟨cur, hcur, rfl⟩ := Option.mem_map.1 hx
  have hok := hstore.2.1 cur hcur
  split
  · unfold Cursor.afterDiscard
    split
    · next hw => exact Cursor.ok_emptied hok hw
    · next hr =>
      have := Cursor.ok_loaded Contents.shaped_zero cur.bank cur.table hok.1
      rwa [← hr] at this
  · exact hok

/-- DISCARD BANK is a chain of moves (R29). -/
theorem Moves.discardBankItem (p : PortId) (payload : List Byte) (s : State) :
    Moves s (discardBankItem p payload s).state := by
  unfold Machine.discardBankItem
  split
  · exact .refl
  · next b _ =>
    split
    · next hopen =>
      exact Moves.clearBank s b fun hok => hok.users_of_opened hopen
    · split
      · next husers => exact Moves.clearBank s b fun _ => husers
      · exact .refl
    · exact .refl

/-- PUBLISH BANK is a move (R30). -/
theorem Moves.publishBankItem (p : PortId) (payload : List Byte) (s : State) :
    Moves s (publishBankItem p payload s).state := by
  unfold Machine.publishBankItem
  split
  · exact .refl
  · next b _ =>
    dsimp only
    split
    · exact .refl
    · next hopen =>
      split
      · exact .refl
      · split
        · exact .refl
        · next hvalid =>
          refine .single (.bank s b _ fun hok => ?_)
          have husers := hok.users_of_opened (by simpa using hopen)
          exact ⟨⟨hok.1, fun h => absurd rfl h, fun h => (by cases h), fun _ => ⟨hvalid, rfl⟩⟩, husers, rfl⟩

/-- CURSOR is a move (R39). -/
theorem Moves.cursorItem (p : PortId) (payload : List Byte) (s : State) :
    Moves s (cursorItem p payload s).state := by
  unfold Machine.cursorItem
  split
  · next b t d _ _ _ =>
    dsimp only
    split
    · exact .refl
    · next hi =>
      refine .single (.cursor s _ fun hstore x hx => ?_)
      cases hx
      have hindex : byteAt payload 2 ≤ t.entries := by omega
      cases d with
      | write => exact ⟨hindex, t.width_pos, rfl⟩
      | read => exact Cursor.ok_loaded (hstore.1 b).1 b t hindex
  · exact .refl

/-- A word taken by a WRITE cursor within its table keeps the cursor in order (R40). -/
theorem Cursor.ok_takeWord {cur : Cursor} (h : cur.ok) (hw : cur.direction = .write)
    (hi : cur.index < cur.table.entries) (c : Contents) (w : Word) :
    (cur.takeWord c w).2.ok ∧ (cur.takeWord c w).2.direction = .write := by
  obtain ⟨_, hd⟩ := h
  rw [hw] at hd
  obtain ⟨hstaging, hreturned⟩ := hd
  unfold Cursor.takeWord
  dsimp only
  split
  · refine ⟨⟨hi, ?_⟩, hw⟩
    dsimp only
    rw [hw]
    exact ⟨cur.table.width_pos, hreturned⟩
  · next hpart =>
    refine ⟨⟨hi.le, ?_⟩, hw⟩
    dsimp only
    rw [hw]
    simp only [List.length_append, List.length_singleton] at hpart ⊢
    exact ⟨by omega, hreturned⟩

/-- A word taken keeps the contents in their sizes (R40). -/
theorem Contents.shaped_takeWord {c : Contents} (hc : c.shaped) (cur : Cursor) (w : Word) :
    (cur.takeWord c w).1.shaped := by
  unfold Cursor.takeWord
  dsimp only
  split
  · next hfull => exact Contents.shaped_setEntry hc _ _ _ hfull
  · exact hc

/-- The words of a DATA keep the cursor in order (R40). -/
theorem ok_writeWords (words : List Word) (c : Contents) {cur : Cursor} (h : cur.ok) (hw : cur.direction = .write) :
    (writeWords words c cur).cursor.ok := by
  induction words generalizing c cur with
  | nil => exact h
  | cons w ws ih =>
    unfold writeWords
    split
    · next hi =>
      obtain ⟨h', hw'⟩ := Cursor.ok_takeWord h hw hi c w
      exact ih _ h' hw'
    · exact h

/-- The words of a DATA keep the contents in their sizes (R40). -/
theorem shaped_writeWords (words : List Word) {c : Contents} (hc : c.shaped) (cur : Cursor) :
    (writeWords words c cur).contents.shaped := by
  induction words generalizing c cur with
  | nil => exact hc
  | cons w ws ih =>
    unfold writeWords
    split
    · exact ih (Contents.shaped_takeWord hc cur w) _
    · exact hc

/-- DATA is a chain of moves: the bank's contents, then the cursor (R40). -/
theorem Moves.dataItem (p : PortId) (payload : List Byte) (s : State) : Moves s (dataItem p payload s).state := by
  unfold Machine.dataItem
  split
  · exact .refl
  · next cur hcur =>
    split
    · exact .refl
    · next hw =>
      dsimp only
      split
      · exact .refl
      · next hopen =>
        have hstate : (s.bank cur.bank).state = .opened := by simpa using hopen
        refine Relation.ReflTransGen.trans (.single (.bank s cur.bank _ fun hok => ?_)) (.single (.cursor _ _ ?_))
        · have husers := hok.users_of_opened hstate
          exact ⟨⟨shaped_writeWords _ hok.1 cur, fun h => absurd husers h, fun h => (by simp [hstate] at h),
            fun h => (by simp [Bank.isReady, hstate] at h)⟩, husers, husers⟩
        · rintro hstore _ ⟨⟩
          exact ok_writeWords _ _ (hstore.2.1 cur hcur) hw

/-- A READ cursor stays in order as words are returned (R41). -/
theorem ok_readWords {c : Contents} (hc : c.shaped) (n : Nat) {cur : Cursor} (h : cur.ok)
    (hr : cur.direction = .read) : (readWords c n cur).2.ok := by
  induction n generalizing cur with
  | zero => exact h
  | succ n ih =>
    unfold readWords
    split
    · next w hword =>
      obtain ⟨hi, hd⟩ := h
      rw [hr] at hd
      dsimp only at hd
      split at hd
      · next hlt =>
        unfold Cursor.stepRead
        split
        · have := Cursor.ok_loaded hc cur.bank cur.table (i := cur.index + 1) hlt
          rw [← hr] at this
          exact ih this hr
        · next hnext =>
          refine ih ⟨hi, ?_⟩ hr
          dsimp only
          rw [hr]
          dsimp only
          rw [if_pos hlt]
          exact ⟨hd.1, by omega⟩
      · simp [hd.1] at hword
    · exact h

/-- READ DATA is a move (R41). -/
theorem Moves.readDataItem (p : PortId) (payload : List Byte) (s : State) :
    Moves s (readDataItem p payload s).state := by
  unfold Machine.readDataItem
  dsimp only
  split
  · exact .refl
  · split
    · exact .refl
    · next cur hcur =>
      split
      · exact .refl
      · next hr =>
        refine .single (.cursor s _ ?_)
        rintro hstore _ ⟨⟩
        exact ok_readWords (hstore.1 cur.bank).1 _ (hstore.2.1 cur hcur) hr

/-- SET WINDOW is a move (R42). -/
theorem Moves.setWindowItem (p : PortId) (payload : List Byte) (s : State) :
    Moves s (setWindowItem p payload s).state := by
  unfold Machine.setWindowItem
  dsimp only
  split
  · split
    · exact .refl
    · next i _ b _ _ _ hmask =>
      refine .single (.windows s _ fun hok w hw => ?_)
      obtain ⟨j, hj, rfl⟩ := List.mem_iff_getElem.1 hw
      have hj8 : j < 8 := by simpa using hj
      rw [Vector.getElem_toList, Vector.getElem_set]
      split
      · simpa using hmask
      · exact hok _ (by simp [Vector.getElem_mem])
  · exact .refl

/-- SET DEFAULT is a move (R43). -/
theorem Moves.setDefaultItem (p : PortId) (payload : List Byte) (s : State) :
    Moves s (setDefaultItem p payload s).state := by
  unfold Machine.setDefaultItem
  split
  · exact .refl
  · next d _ => exact .single (.settings s { s.settings with fallback := d })

/-- BANK STATUS moves nothing (R37). -/
theorem Moves.bankStatusItem (p : PortId) (payload : List Byte) (s : State) :
    Moves s (bankStatusItem p payload s).state := by
  unfold Machine.bankStatusItem
  split <;> exact .refl

/-- READ WINDOW moves nothing (R43). -/
theorem Moves.readWindowItem (p : PortId) (payload : List Byte) (s : State) :
    Moves s (readWindowItem p payload s).state := by
  unfold Machine.readWindowItem
  split <;> exact .refl

end Sys2Proof.Machine
end

section
/-! Every command is a chain of moves: the axle files, the settings, the claims and the resets. -/

namespace Sys2Proof.Machine

/-! ### Axle files (R15 to R24, R147 to R156) -/

/-- ADMIT is a move (R15, R16). -/
theorem Moves.admitItem (p : PortId) (payload : List Byte) (s : State) : Moves s (admitItem p payload s).state := by
  unfold Machine.admitItem
  dsimp only
  split
  · exact .refl
  · next hserial =>
    split
    · exact .refl
    · next hnew =>
      split
      · exact .refl
      · next i hi =>
        split
        · exact .refl
        · next b _ =>
          split
          · next hready =>
            exact .single (.admitFile s i _ _ b (by simpa using hserial) (by simpa using hnew) (State.file_of_freeSlot hi)
              hready)
          · exact .refl

/-- LOOKUP moves what its read does (R17). -/
theorem Moves.lookupItem (p : PortId) (payload : List Byte) (s : State) : Moves s (lookupItem p payload s).state :=
  Moves.onSerial s _ _ _ fun _ _ _ _ => .refl

/-- REPORT moves what its read does (R151). -/
theorem Moves.reportItem (p : PortId) (payload : List Byte) (s : State) : Moves s (reportItem p payload s).state :=
  Moves.onSerial s _ _ _ fun _ _ _ _ => .refl

/-- LIST moves what its read does (R19). -/
theorem Moves.listItem (p : PortId) (payload : List Byte) (s : State) : Moves s (listItem p payload s).state := by
  unfold Machine.listItem
  split
  · exact .refl
  · dsimp only
    split <;> exact Moves.readFile s _ _

/-- HOLD FILE is a chain of moves (R20). -/
theorem Moves.holdFileItem (p : PortId) (payload : List Byte) (s : State) :
    Moves s (holdFileItem p payload s).state := by
  unfold Machine.holdFileItem
  dsimp only
  split
  · exact .refl
  · next hreason =>
    refine Moves.onSerial s _ _ _ fun i f u hf => ?_
    split
    · exact .refl
    · next hnew =>
      split
      · exact .refl
      · next hroom =>
        refine .single (.holds u i f _ hf fun hok => ?_)
        obtain ⟨-, -, -, -, hnodup, hrange, -, -⟩ := hok
        have hr : 1 ≤ byteAt payload 12 ∧ byteAt payload 12 ≤ 15 := by
          simpa [isReason, Nat.one_le_iff_ne_zero] using hreason
        refine ⟨by simp; omega, ?_, ?_⟩
        · have hmem : byteAt payload 12 ∉ f.holds := by simpa using hnew
          exact List.nodup_append.2 ⟨hnodup, by simp, 
            fun a ha b hb hab => hmem (by rwa [← List.mem_singleton.1 hb, ← hab])⟩
        · intro r hmem
          rcases List.mem_append.1 hmem with h | h
          · exact hrange r h
          · rw [List.mem_singleton.1 h]; exact hr

/-- LIFT HOLD is a chain of moves (R21). -/
theorem Moves.liftHoldItem (p : PortId) (payload : List Byte) (s : State) :
    Moves s (liftHoldItem p payload s).state := by
  unfold Machine.liftHoldItem
  dsimp only
  split
  · exact .refl
  · refine Moves.onSerial s _ _ _ fun i f u hf => ?_
    split
    · refine .single (.holds u i f _ hf fun hok => ?_)
      obtain ⟨-, -, -, hlen, hnodup, hrange, -, -⟩ := hok
      exact ⟨(List.erase_sublist.length_le).trans hlen, hnodup.erase _, fun r hr => hrange r (List.mem_of_mem_erase hr)⟩
    · exact .refl

/-- REOPEN STAGE is a chain of moves (R23, R24). -/
theorem Moves.reopenStageItem (p : PortId) (payload : List Byte) (s : State) :
    Moves s (reopenStageItem p payload s).state := by
  unfold Machine.reopenStageItem
  split
  · exact .refl
  · next t _ =>
    refine Moves.onSerial s _ _ _ fun i f u hf => ?_
    split
    · exact .refl
    · next rs hrs =>
      split
      · exact .refl
      · next hfailed =>
        split
        · exact .refl
        · next hlimit =>
          exact .single (.reopen u i f rs t hf hrs (by simpa using hfailed) (Nat.lt_of_not_le hlimit))

/-- RELEASE is a chain of moves (R148, R155). -/
theorem Moves.releaseItem (p : PortId) (payload : List Byte) (s : State) :
    Moves s (releaseItem p payload s).state := by
  unfold Machine.releaseItem
  dsimp only
  split
  · unfold State.strayRelease
    split
    · exact Moves.raise s _ _ _
    · exact .refl
  · refine Moves.onSerial s _ _ _ fun i f u hf => ?_
    split
    · exact .refl
    · next hactive => exact .single (.release u i f hf (by simpa using hactive))

/-- FORCE RETIRE is a chain of moves (R154). -/
theorem Moves.forceRetireItem (p : PortId) (payload : List Byte) (s : State) :
    Moves s (forceRetireItem p payload s).state := by
  refine Moves.onSerial s _ _ _ fun i f u hf => ?_
  have hfreed : Moves u (u.freed i .forced) := by
    unfold State.freed
    split
    · exact .single (.engineEnd u _ _)
    · exact .refl
  change Moves u (match (u.freed i .forced).file i with
    | some f => ((u.freed i .forced).retire i f).reply .done
    | none => (u.freed i .forced).reply .unknown).state
  split
  · next g hg => exact .single (.forceRetire u i g hg)
  · exact hfreed

/-- SET STRAY is a move (R156). -/
theorem Moves.setStrayItem (p : PortId) (payload : List Byte) (s : State) :
    Moves s (setStrayItem p payload s).state := by
  unfold Machine.setStrayItem
  split
  · exact .refl
  · next on _ => exact .single (.settings s { s.settings with strayEnabled := on })

/-! ### Settings (R103, R162, R166, R168, R182 to R185) -/

/-- SET AUDIO is a chain of moves: the input section, then the configuration (R103). -/
theorem Moves.setAudioItem (p : PortId) (payload : List Byte) (s : State) :
    Moves s (setAudioItem p payload s).state := by
  unfold Machine.setAudioItem
  split
  · exact .refl
  · next cfg _ =>
    split
    · exact .refl
    · split
      · exact .refl
      · let i : InputSection := { s.input with detected := none, edges := 0, place := .before, left := none }
        have hinput : Move s (s.withInput i) :=
          .input s i (.inr fun h => by simp only [i, h]; rfl) id
        exact hinput.moves.trans (.single (.settings (s.withInput i) { s.settings with audio := cfg }))

/-- AUDIO STATUS moves nothing (R104). -/
theorem Moves.audioStatusItem (p : PortId) (payload : List Byte) (s : State) :
    Moves s (audioStatusItem p payload s).state := .refl

/-- SET ROLE is a move: port 0 keeps its role, and a role that is given is no other port's (R162). -/
theorem Moves.setRoleItem (p : PortId) (payload : List Byte) (s : State) :
    Moves s (setRoleItem p payload s).state := by
  unfold Machine.setRoleItem
  split
  · next q r _ _ =>
    split
    · exact .refl
    · next hq =>
      split
      · exact .refl
      · split
        · exact .refl
        · next hfree =>
          refine .single (.ports s (s.ports.set q.val { s.port q with role := r } q.isLt) fun h => ?_)
          change LinkInv (s.setPort q { s.port q with role := r })
          obtain ⟨hsup, hrole, hok⟩ := h
          obtain ⟨hq0, hrsup⟩ := not_or.1 hq
          have hother (x : PortId) (hx : x ≠ q) (hr : r ≠ .unassigned) : (s.port x).role ≠ r := fun he =>
            hfree ⟨hr, List.any_eq_true.2 ⟨x, by fin_cases x <;> simp [allPorts], by simp [hx, he]⟩⟩
          refine ⟨fun x => ?_, fun x y hxy => ?_, fun x => ?_⟩
          · rw [State.port_setPort]
            split
            · next hx => subst hx; simp [hrsup, hq0]
            · exact hsup x
          · simp only [State.port_setPort] at hxy ⊢
            by_cases hx : q = x <;> by_cases hy : q = y
            · exact .inl (hx.symm.trans hy)
            · simp only [hx, if_true] at hxy ⊢
              by_cases hr : r = .unassigned
              · exact .inr (by simpa using hr)
              · subst hx; exact absurd hxy.symm (by simpa [hy] using hother y (Ne.symm hy) hr)
            · subst hy
              simp only [hx, if_true, if_false] at hxy ⊢
              by_cases hr : r = .unassigned
              · exact .inr (hxy.trans hr)
              · exact absurd hxy (hother x (Ne.symm hx) hr)
            · simpa [hx] using hrole x y (by simpa [hx, hy] using hxy)
          · rw [State.port_setPort]
            split
            · next hx => subst hx; exact hok q
            · exact hok x
  · exact .refl

/-- SET ARBITER is a move (R168). -/
theorem Moves.setArbiterItem (p : PortId) (payload : List Byte) (s : State) :
    Moves s (setArbiterItem p payload s).state := by
  unfold Machine.setArbiterItem
  split
  · exact .refl
  · next x _ => exact .single (.settings s { s.settings with scheme := x })

/-- SET PRIORITY is a move (R168). -/
theorem Moves.setPriorityItem (p : PortId) (payload : List Byte) (s : State) :
    Moves s (setPriorityItem p payload s).state := by
  unfold Machine.setPriorityItem
  split
  · next q n _ _ =>
    exact .single (.settings s { s.settings with priorities := s.arbiter.priorities.set q.val n q.isLt })
  · exact .refl

/-- STATUS is a move (R166). -/
theorem Moves.statusItem (p : PortId) (payload : List Byte) (s : State) : Moves s (statusItem p payload s).state := by
  refine Moves.withPorts s s.clearFlags.ports fun q => ?_
  have hq : s.clearFlags.ports[q] = { s.port q with garbled := false, overrun := false } := by
    simp [State.clearFlags]
  rw [hq]
  exact ⟨rfl, id⟩

/-- READ CAPTURE moves nothing (R182). -/
theorem Moves.readCaptureItem (p : PortId) (payload : List Byte) (s : State) :
    Moves s (readCaptureItem p payload s).state := .refl

/-- CLEAR CAPTURE is a move (R182). -/
theorem Moves.clearCaptureItem (p : PortId) (payload : List Byte) (s : State) :
    Moves s (clearCaptureItem p payload s).state :=
  .single (.settings s { s.settings with router := { s.router with capture := none } })

/-- SET ROUTE is a move (R185). -/
theorem Moves.setRouteItem (p : PortId) (payload : List Byte) (s : State) :
    Moves s (setRouteItem p payload s).state := by
  unfold Machine.setRouteItem
  split
  · exact .refl
  · next k _ =>
    exact .single (.settings s { s.settings with
      router := s.router.setRoute k { s.router.route k with ports := payload.getD 1 0 } })

/-- ENABLE SET and ENABLE CLEAR are moves (R185). -/
theorem Moves.enableKinds (s : State) (kinds : Byte) (on : Bool) : Moves s (s.enableKinds kinds on).state := by
  unfold State.enableKinds
  split
  · exact .refl
  · exact .single (.settings s { s.settings with router := s.router.enableKinds kinds on })

/-- SET MULTI is a move (R183). -/
theorem Moves.setMultiItem (p : PortId) (payload : List Byte) (s : State) :
    Moves s (setMultiItem p payload s).state := by
  unfold Machine.setMultiItem
  split
  · exact .refl
  · next on _ => exact .single (.settings s { s.settings with router := { s.router with multi := on } })

/-! ### Claims (R49 to R61, R67) -/

/-- CLAIM is a chain of moves (R49, R50). -/
theorem Moves.claimItem (p : PortId) (payload : List Byte) (s : State) : Moves s (claimItem p payload s).state := by
  unfold Machine.claimItem
  split
  · exact .refl
  · next t _ =>
    split
    · exact .refl
    · next c _ =>
      split
      · exact .refl
      · next hstage =>
        refine Moves.onSerial s _ _ _ fun i f u hf => ?_
        unfold claimStage
        split
        · exact .refl
        · next rs hrs =>
          split_ifs with _ hopen hother _ hidle
          case neg => exact .single (.claim u i f rs t c hf hrs (by simpa using hopen) (by simpa using hother)
              (by simpa using hstage) (by simpa using hidle))
          all_goals exact .refl

/-- START is a chain of moves (R55). -/
theorem Moves.startItem (p : PortId) (payload : List Byte) (s : State) : Moves s (startItem p payload s).state := by
  unfold Machine.startItem
  split
  · exact .refl
  · refine Moves.onHandle s _ _ _ fun h u => ?_
    split
    · next b hb =>
      split
      · next hclaimed => exact .single (.start u _ b hb hclaimed.1)
      · exact .refl
    · exact .refl

/-- ABANDON is a chain of moves (R59). -/
theorem Moves.abandonItem (p : PortId) (payload : List Byte) (s : State) :
    Moves s (abandonItem p payload s).state := by
  unfold Machine.abandonItem
  split
  · exact .refl
  · refine Moves.onHandle s _ _ _ fun h u => ?_
    dsimp only
    split
    · next hstate => exact Moves.endStage u _ _ hstate.1 (StageEnd.okFor_cutShort _ _)
    · exact .refl

/-- RESULT moves what its read does (R67). -/
theorem Moves.resultItem (p : PortId) (payload : List Byte) (s : State) : Moves s (resultItem p payload s).state := by
  unfold Machine.resultItem
  split
  · exact .refl
  · split
    · exact .refl
    · refine Moves.onHandle s _ _ _ fun h u => ?_
      split <;> exact .refl

/-- END_POSTING_APPLIED is a chain of moves (R60). -/
theorem Moves.endPostingApplied (ds : Disturbances) (s : State) :
    ∃ t, execEndPostingApplied ds s = .next t ∧ Moves s t := by
  refine ⟨_, rfl, Moves.unlessReset ?_⟩
  split
  · next p hg =>
    split
    · next e hk =>
      obtain ⟨rest, hp⟩ := s.grant_posting hg
      exact (Move.disturb s ds).moves.trans (.single (.applyEnd (s.disturb ds) _ p rest e hp hk))
    · exact .refl
  · exact .refl

/-- LAPSE_POSTING_APPLIED is a chain of moves (R54). -/
theorem Moves.lapsePostingApplied (ds : Disturbances) (s : State) :
    ∃ t, execLapsePostingApplied ds s = .next t ∧ Moves s t := by
  refine ⟨_, rfl, Moves.unlessReset ?_⟩
  split
  · next p hg =>
    split
    · next hk =>
      obtain ⟨rest, hp⟩ := s.grant_posting hg
      exact (Move.disturb s ds).moves.trans (.single (.applyLapse (s.disturb ds) _ p rest hp hk))
    · exact .refl
  · exact .refl

/-- CLAIM_START_EXPIRY is a move (R52, R53). -/
theorem Moves.claimStartExpiry (c : ChannelId) (s : State) :
    ∃ t, execClaimStartExpiry c s = .next t ∧ Moves s t := by
  refine ⟨_, rfl, Moves.unlessReset ?_⟩
  split
  · next b hclaimed _ hb => exact .single (.post s c b .lapse hb (.inl hclaimed) (fun _ => hclaimed) nofun)
  · exact .refl

/-- STAGE_TIME_LIMIT_EXPIRY is a chain of moves (R56). -/
theorem Moves.stageTimeLimitExpiry (c : ChannelId) (s : State) :
    ∃ t, execStageTimeLimitExpiry c s = .next t ∧ Moves s t := by
  refine ⟨_, rfl, Moves.unlessReset ?_⟩
  split
  · next h => exact Moves.endStage s c _ (.inr h.1) (StageEnd.okFor_cutShort _ _)
  · exact .refl

/-! ### Resets (R65, R170, R171) -/

/-- A damaged file's channel is at rest, and every other channel as it was (R64, R180). -/
theorem State.chan_damage (s : State) (i : SlotId) (f : FileRec) (d : ChannelId) :
    (s.damage i f).chan d = s.chan d ∨ (s.damage i f).chan d = .rest := by
  unfold State.damage
  dsimp only
  rw [State.chan_congr (State.recompute_chans _ _)]
  split
  · rw [State.chan_engineEnd]
    repeat' split
    · exact .inr rfl
    · next hd _ => subst hd; exact .inl rfl
    · exact .inl rfl
  · exact .inl rfl

/-- The read of a file leaves each channel as it was or at rest (R14, R64). -/
theorem State.chan_readFile (s : State) (item : CaptureItem) (i : SlotId) (d : ChannelId) :
    (s.readFile item i).chan d = s.chan d ∨ (s.readFile item i).chan d = .rest := by
  unfold State.readFile
  dsimp only
  repeat' split
  · exact .inl rfl
  · exact .inl (State.chan_congr (by simp) d)
  · rw [← State.chan_congr (State.captureError_chans s i item (s.slot i).errors) d]
    exact State.chan_damage _ i _ d
  · exact .inl rfl

/-- A channel reset is bound to nothing (R65). -/
theorem State.binding_resetChannel (s : State) (c : ChannelId) : ((s.resetChannel c).chan c).binding = none := by
  unfold State.resetChannel
  split
  · rw [State.chan_engineEnd, if_pos rfl]
    split
    · rfl
    · next h => simpa using h
  · assumption

/-- A channel bound to nothing stays so as another is reset (R65). -/
theorem State.binding_resetChannel_of_none (s : State) (c d : ChannelId) (h : (s.chan d).binding = none) :
    ((s.resetChannel c).chan d).binding = none := by
  have hread (item i) : ((s.readFile item i).chan d).binding = none := by
    rcases s.chan_readFile item i d with hd | hd
    · rw [hd, h]
    · rw [hd]; rfl
  unfold State.resetChannel
  split
  · rw [State.chan_engineEnd]
    repeat' split
    · rfl
    · next hcd _ => rw [hcd]; exact hread _ _
    · exact hread _ _
  · exact h

/-- After the channels of a list are reset, they are bound to nothing (R65). -/
theorem State.binding_foldl_resetChannel (cs : List ChannelId) (s : State) (d : ChannelId)
    (h : d ∈ cs ∨ (s.chan d).binding = none) : ((cs.foldl State.resetChannel s).chan d).binding = none := by
  induction cs generalizing s with
  | nil => simpa using h
  | cons c cs ih =>
    refine ih _ ?_
    rcases h with h | h
    · rcases List.mem_cons.1 h with rfl | h
      · exact .inr (s.binding_resetChannel d)
      · exact .inl h
    · exact .inr (s.binding_resetChannel_of_none c d h)

/-- Every channel is one of the five (R46). -/
theorem mem_allChannels (c : ChannelId) : c ∈ allChannels := by cases c <;> decide

/-- CELL RESET is a chain of moves: the answer, the held requests dropped, each channel's read and end, and the rest
settled (R65, R171). -/
theorem Moves.cellReset (s : State) : Moves s s.cellReset := by
  have hdrop : Moves s s.dropHeld := by
    refine Moves.withPorts s s.dropHeld.ports fun p => ?_
    have hp : s.dropHeld.ports[p] = if p = 0 then s.port p else { s.port p with held := none } := by
      simp [State.dropHeld]
    rw [hp]
    split
    · exact ⟨rfl, id⟩
    · exact ⟨rfl, fun h => ⟨h.1, h.2.1, nofun⟩⟩
  have hchannel (u : State) (c : ChannelId) : Moves u (u.resetChannel c) := by
    unfold State.resetChannel
    split
    · exact (Moves.readFile u _ _).trans (.single (.engineEnd _ c .reset))
    · exact .refl
  have hfold (cs : List ChannelId) (u : State) : Moves u (cs.foldl State.resetChannel u) := by
    induction cs generalizing u with
    | nil => exact .refl
    | cons c cs ih => exact (hchannel u c).trans (ih _)
  refine (hdrop.trans (hfold allChannels _)).trans (.single (.settle _ fun c => ?_))
  exact State.binding_foldl_resetChannel _ _ c (.inl (mem_allChannels c))

/-- CELL_RESET is a chain of moves (R171). -/
theorem Moves.execCellReset (ds : Disturbances) (s : State) : ∃ t, execCellReset ds s = .next t ∧ Moves s t := by
  refine ⟨_, rfl, Moves.unlessReset ?_⟩
  split
  · split
    · exact (((Moves.granting s _).trans (.single (.disturb _ ds))).trans (Moves.answer _ _ _ _ _)).trans
        (Moves.cellReset _)
    · exact .refl
  · exact .refl

end Sys2Proof.Machine
end

section
/-! Every command is a chain of moves: the analyzers, and the dispatch. -/

namespace Sys2Proof.Machine

/-! ### The run-in monitor (R72 to R85) -/

/-- A reading taken keeps the step timer and the rest of the queue, and an end it brings is complete for RUNIN
(R57, R77 to R85). -/
theorem Monitor.take_keeps (m : Monitor) (c : Contents) (r : RunInReading) :
    (m.take c r).1.stepTimer = m.stepTimer ∧ (m.take c r).1.queue = m.queue ∧
      ∀ e ∈ (m.take c r).2, e.okFor .runin = true := by
  unfold Monitor.take
  split
  · unfold Monitor.treat
    dsimp only
    split
    · exact ⟨rfl, rfl, by rintro _ ⟨⟩; rfl⟩
    · split
      · exact ⟨rfl, rfl, nofun⟩
      · refine ⟨rfl, rfl, fun e he => ?_⟩
        obtain ⟨cause, _, rfl⟩ := Option.mem_map.1 he
        rfl
  · split
    · exact ⟨rfl, rfl, nofun⟩
    · refine ⟨rfl, rfl, fun e he => ?_⟩
      dsimp only at he
      split at he
      · cases he; rfl
      · cases he

/-- Writing a monitor keeps every channel. -/
@[simp] theorem State.chan_setMonitor (s : State) (c : RunInCh) (m : Monitor) (d : ChannelId) :
    (s.setMonitor c m).chan d = s.chan d := by cases c <;> rfl

/-- Writing a leak analyzer keeps every channel. -/
@[simp] theorem State.chan_setLeak (s : State) (c : LeakCh) (a : LeakAnalyzer) (d : ChannelId) :
    (s.setLeak c a).chan d = s.chan d := by cases c <;> rfl

/-- The stage of a run-in channel is RUNIN (R46). -/
theorem stage_runInCh_id (c : RunInCh) : c.id.stage = .runin := by cases c <;> rfl

/-- The stage of a leak channel is LEAK (R46). -/
theorem stage_leakCh_id (c : LeakCh) : c.id.stage = .leak := by cases c <;> rfl

/-- A run-in reading taken is a chain of moves (R82). -/
theorem Moves.takeRunIn (s : State) (c : RunInCh) : Moves s (s.takeRunIn c) := by
  unfold State.takeRunIn
  split
  · next r rest hr hq =>
    obtain ⟨htimer, hqueue, hend⟩ :=
      Monitor.take_keeps { s.monitor c with queue := rest } (s.bankOf c.id).contents r
    have hset := Move.monitor s c (Monitor.take { s.monitor c with queue := rest } (s.bankOf c.id).contents r).1 hr
      (fun h => by rw [htimer]; exact h) (fun h => by rw [hqueue]; simp [hq] at h ⊢; omega)
    unfold State.afterMonitor
    split
    · next e he =>
      exact hset.moves.trans (Moves.endStage _ _ _ (.inr (by simpa using hr)) (stage_runInCh_id c ▸ hend e he))
    · exact hset.moves
  · exact .refl

/-- SETTLE_TIMER_EXPIRY is a move (R73). -/
theorem Moves.settleTimerExpiry (c : RunInCh) (s : State) : ∃ t, execSettleTimerExpiry c s = .next t ∧ Moves s t := by
  refine ⟨_, rfl, Moves.unlessReset ?_⟩
  split
  · next h => exact .single (.monitor s c _ h.1 id id)
  · exact .refl

/-- The end of a step is a chain of moves (R74, R76). -/
theorem Moves.stepExpired (s : State) (c : RunInCh) (hr : (s.chan c.id).state = .running) :
    Moves s (s.stepExpired c) := by
  unfold State.stepExpired
  dsimp only
  split
  · exact Moves.endStage s _ _ (.inr hr) (StageEnd.okFor_cutShort _ _)
  · split
    · let k := s.bankOf c.id
      let entered := (s.monitor c).enterStep ((s.monitor c).step + 1) (k.contents.step ((s.monitor c).step + 1))
      have hset : Move s (s.setMonitor c entered) := .monitor s c entered hr (fun _ => rfl) id
      refine hset.moves.trans ?_
      unfold State.directStep
      split
      · exact Moves.direct _ _ _ _
      · exact .refl
    · exact Moves.endStage s _ _ (.inr hr) (by rw [stage_runInCh_id c]; rfl)

/-- STEP_TIMER_EXPIRY is a chain of moves (R74, R76). -/
theorem Moves.stepTimerExpiry (c : RunInCh) (s : State) : ∃ t, execStepTimerExpiry c s = .next t ∧ Moves s t := by
  refine ⟨_, rfl, Moves.unlessReset ?_⟩
  split
  · next h => exact Moves.stepExpired s c h.1
  · exact .refl

/-! ### The noise analyzer's input (R90 to R99) -/

/-- While channel N listens it is RUNNING, in a phase before EVALUATE (R95, R97). -/
theorem State.of_listening {s : State} (h : s.listening = true) :
    (s.chan .n).state = .running ∧ ∃ p, s.noise.phase = some p ∧ p ≠ .evaluate := by
  simp only [State.listening, Bool.and_eq_true, beq_iff_eq] at h
  refine ⟨h.1, ?_⟩
  cases hp : s.noise.phase with
  | none => simp [hp] at h
  | some p => exact ⟨p, rfl, fun he => by simp [hp, he, NoisePhase.listens] at h⟩

/-- A marker keeps the FIFO (R98). -/
@[simp] theorem InputSection.fifo_marker (i : InputSection) : i.marker.fifo = i.fifo := by
  unfold InputSection.marker
  split_ifs <;> rfl

/-- A completed frame leaves at most 64 entries in the FIFO (R98, R99). -/
theorem InputSection.length_fifo_frame (i : InputSection) (v : Int) (h : i.fifo.length ≤ Config.fifoLimit) :
    (i.frame v).fifo.length ≤ Config.fifoLimit := by
  unfold InputSection.frame
  split_ifs with _ hroom
  · exact h
  · simpa using hroom
  · exact h
  · have hl : (spoilNewest i.fifo).length = i.fifo.length := by
      cases hf : i.fifo using List.reverseRecOn <;> simp [spoilNewest]
    exact hl ▸ h

/-- A half that ends leaves at most 64 entries in the FIFO (R98). -/
theorem InputSection.length_fifo_half (i : InputSection) (cfg : AudioConfig) (level : AwsLevel) (bits : List Bool)
    (h : i.fifo.length ≤ Config.fifoLimit) : ∀ j ∈ i.half cfg level bits, j.fifo.length ≤ Config.fifoLimit := by
  have hexamine (k : InputSection) (go : InputSection → Int → InputSection)
      (hgo : ∀ x v, x.fifo = k.fifo → (go x v).fifo.length ≤ Config.fifoLimit) :
      ∀ j ∈ k.examine cfg bits go, j.fifo.length ≤ Config.fifoLimit := by
    unfold InputSection.examine
    split
    · nofun
    · rintro _ ⟨⟩; exact hgo _ _ rfl
  unfold InputSection.half
  split
  · rintro _ ⟨⟩; exact h
  · split
    · rintro _ ⟨⟩; exact h
    · refine hexamine _ _ fun x v hx => ?_
      have hx' : x.fifo.length ≤ Config.fifoLimit := by rw [hx]; exact h
      unfold InputSection.endLeft
      split
      · exact InputSection.length_fifo_frame x v hx'
      · exact hx'
    · rintro _ ⟨⟩; exact h
    · rintro _ ⟨⟩; exact h
    · exact hexamine _ _ fun x v hx => by rw [hx]; exact h
    · refine hexamine _ _ fun x v hx => ?_
      have hx' : x.fifo.length ≤ Config.fifoLimit := by rw [hx]; exact h
      unfold InputSection.endRight
      split
      · exact InputSection.length_fifo_frame _ _ hx'
      · exact hx'

/-- AUDIO_HALF_END is a chain of moves (R90 to R94). -/
theorem Moves.audioHalfEnd (level : AwsLevel) (bits : List Bool) (s : State) :
    ∃ t, execAudioHalfEnd level bits s = .next t ∧ Moves s t := by
  refine ⟨_, rfl, Moves.unlessReset ?_⟩
  split
  · next hl =>
    obtain ⟨hr, -⟩ := State.of_listening hl
    split
    · next i hi =>
      exact .single (.input s i (.inl hr) fun h => InputSection.length_fifo_half _ _ _ _ h i hi)
    · exact Moves.endStage s .n _ (.inr hr) (StageEnd.okFor_cutShort _ _)
  · exact .refl

/-- TACH_EDGE is a move (R95). -/
theorem Moves.tachEdge (s : State) : ∃ t, execTachEdge s = .next t ∧ Moves s t := by
  refine ⟨_, rfl, Moves.unlessReset ?_⟩
  split
  · next hl =>
    have hfifo : (s.input.edge s.audio.pulses).fifo = s.input.fifo := by
      unfold InputSection.edge
      dsimp only
      split
      · rw [InputSection.fifo_marker]
      · rfl
    exact .single (.input s _ (.inl (State.of_listening hl).1) fun h => by rw [hfifo]; exact h)
  · exact .refl

/-- TACH_WATCHDOG_EXPIRY is a chain of moves (R97). -/
theorem Moves.tachWatchdogExpiry (s : State) : ∃ t, execTachWatchdogExpiry s = .next t ∧ Moves s t := by
  refine ⟨_, rfl, Moves.unlessReset ?_⟩
  split
  · next h =>
    exact Moves.endStage s .n _ (.inr (State.of_listening h.1).1) (StageEnd.okFor_cutShort _ _)
  · exact .refl

/-! ### The noise analyzer (R105 to R121) -/

/-- The empty revolution buffer is in order (R105). -/
theorem RevBuffer.ok_clear : RevBuffer.clear.ok := ⟨Nat.zero_le _, fun _ => rfl⟩

/-- A written buffer is read back, the other stays. -/
@[simp] theorem Analyzer.buffer_setBuffer (a : Analyzer) (b d : BufferId) (v : RevBuffer) :
    (a.setBuffer b v).buffer d = if b = d then v else a.buffer d := by
  cases b <;> cases d <;> rfl

/-- The analyzer with a buffer written keeps the name of the filling buffer. -/
@[simp] theorem Analyzer.filling_setBuffer (a : Analyzer) (b : BufferId) (v : RevBuffer) :
    (a.setBuffer b v).filling = a.filling := by cases b <;> rfl

/-- Writing a buffer keeps the phase. -/
@[simp] theorem Analyzer.phase_setBuffer (a : Analyzer) (b : BufferId) (v : RevBuffer) :
    (a.setBuffer b v).phase = a.phase := by cases b <;> rfl

/-- The other buffer is another one (R105). -/
@[simp] theorem BufferId.other_ne (b : BufferId) : b.other ≠ b := by cases b <;> simp [BufferId.other]

/-- An analyzer is in order when both buffers are, the filling one does not fold, and both banks have their slots. -/
theorem Analyzer.ok_iff (a : Analyzer) : a.ok ↔ (∀ b, (a.buffer b).ok) ∧ (a.buffer a.filling).state ≠ .folding ∧
    a.drive.slots.length = 128 ∧ a.coast.slots.length = 128 := by
  constructor
  · rintro ⟨hx, hy, h⟩
    exact ⟨fun b => by cases b <;> assumption, h⟩
  · rintro ⟨h, hr⟩
    exact ⟨h .x, h .y, hr⟩

/-- The buffers of an analyzer stay in order when one is written in order. -/
theorem Analyzer.buffers_ok_setBuffer {a : Analyzer} (h : ∀ d, (a.buffer d).ok) (b : BufferId) {v : RevBuffer}
    (hv : v.ok) (d : BufferId) : ((a.setBuffer b v).buffer d).ok := by
  rw [Analyzer.buffer_setBuffer]
  split
  · exact hv
  · exact h d

/-- Writing a buffer keeps the accumulator banks. -/
theorem Analyzer.banks_setBuffer (a : Analyzer) (b : BufferId) (v : RevBuffer) :
    (a.setBuffer b v).drive = a.drive ∧ (a.setBuffer b v).coast = a.coast := by cases b <;> exact ⟨rfl, rfl⟩

/-- A phase follows another: an analyzer at work stays at work, and EVALUATE is neither entered nor left. -/
def PhaseFollows (old new : Option NoisePhase) : Prop :=
  (old.isSome = true → new.isSome = true) ∧ (new = some .evaluate ↔ old = some .evaluate)

/-- A phase follows itself. -/
theorem PhaseFollows.refl (p : Option NoisePhase) : PhaseFollows p p := ⟨id, .rfl⟩

/-- What closing the revolution of length `len` in the filling buffer can leave (R109 to R111): that buffer empty, or
FOLDING where its length was accepted, and a phase that follows; the rest as it was. -/
structure Analyzer.Closes (a : Analyzer) (len : Nat) (c : Analyzer) : Prop where
  filling : c.filling = a.filling
  other : c.buffer a.filling.other = a.buffer a.filling.other
  drive : c.drive = a.drive
  coast : c.coast = a.coast
  own : c.buffer a.filling = .clear ∨
    len ≤ Config.bufferLimit ∧ c.buffer a.filling = { a.buffer a.filling with state := .folding }
  phase : PhaseFollows a.phase c.phase

/-- Emptying the filling buffer closes its revolution. -/
theorem Analyzer.closes_emptied (a : Analyzer) (len : Nat) : a.Closes len (a.setBuffer a.filling .clear) where
  filling := by simp
  other := by simp [(BufferId.other_ne a.filling).symm]
  drive := (a.banks_setBuffer _ _).1
  coast := (a.banks_setBuffer _ _).2
  own := .inl (by simp)
  phase := by rw [Analyzer.phase_setBuffer]; exact .refl _

/-- A buffer is one of the two. -/
theorem Analyzer.buffer_congr {a c : Analyzer} (hx : c.x = a.x) (hy : c.y = a.y) (b : BufferId) :
    c.buffer b = a.buffer b := by
  cases b
  · exact hx
  · exact hy

/-- Closing a revolution is about the buffers, the banks and the phase only. -/
theorem Analyzer.Closes.congr {a c d : Analyzer} {len : Nat} (h : a.Closes len c) (hfilling : d.filling = c.filling)
    (hx : d.x = c.x) (hy : d.y = c.y) (hdrive : d.drive = c.drive) (hcoast : d.coast = c.coast)
    (hphase : PhaseFollows a.phase d.phase) : a.Closes len d where
  filling := hfilling.trans h.filling
  other := (Analyzer.buffer_congr hx hy _).trans h.other
  drive := hdrive.trans h.drive
  coast := hcoast.trans h.coast
  own := by rw [Analyzer.buffer_congr hx hy]; exact h.own
  phase := hphase

/-- Counting a settle revolution goes on to a phase before EVALUATE (R109). -/
theorem Analyzer.Closes.countSettle {a c : Analyzer} {len : Nat} (h : a.Closes len c) (ha : a.phase ≠ some .evaluate)
    (target : Nat) {next : NoisePhase} (hn : next ≠ .evaluate) : a.Closes len (c.countSettle target next) := by
  unfold Analyzer.countSettle
  split
  · exact h.congr rfl rfl rfl rfl rfl ⟨fun _ => rfl, by simp [hn, ha]⟩
  · exact h.congr rfl rfl rfl rfl rfl h.phase

/-- The revolution in the filling buffer is closed by the phase in force (R109, R111). -/
theorem Analyzer.closes_close (a : Analyzer) (f : NoiseFields) (len : Nat) : a.Closes len (a.close f len) := by
  have hemptied := a.closes_emptied len
  have hjudged : a.Closes len (if f.accepts (a.buffer a.filling).spoiled len then
      a.setBuffer a.filling { a.buffer a.filling with state := .folding }
      else { a.setBuffer a.filling .clear with rejected := a.rejected + 1 }) := by
    split
    · next h => exact {
        filling := by simp
        other := by simp [(BufferId.other_ne a.filling).symm]
        drive := (a.banks_setBuffer _ _).1
        coast := (a.banks_setBuffer _ _).2
        own := .inr ⟨by simp [NoiseFields.accepts] at h; omega, by simp⟩
        phase := by rw [Analyzer.phase_setBuffer]; exact .refl _ }
    · exact hemptied.congr rfl rfl rfl rfl rfl hemptied.phase
  unfold Analyzer.close
  dsimp only
  split
  · next h => exact hemptied.countSettle (by simp [h]) _ (by simp)
  · next h => exact hemptied.countSettle (by simp [h]) _ (by simp)
  · exact hjudged
  · exact hjudged
  all_goals exact hemptied

/-- After a revolution was closed, both buffers are in order where they were. -/
theorem Analyzer.Closes.buffers_ok {a c : Analyzer} {len : Nat} (h : a.Closes len c) (hok : ∀ b, (a.buffer b).ok)
    (b : BufferId) : (c.buffer b).ok := by
  by_cases hb : b = a.filling
  · subst hb
    rcases h.own with h | ⟨-, h⟩
    · rw [h]; exact RevBuffer.ok_clear
    · rw [h]; exact ⟨(hok _).1, nofun⟩
  · have : b = a.filling.other := by cases b <;> cases hf : a.filling <;> simp_all [BufferId.other]
    rw [this, h.other]
    exact hok _

/-- A revolution opened in a buffer leaves the analyzer in order where its buffers and banks are (R107). -/
theorem Analyzer.ok_openIn {a : Analyzer} (hbuf : ∀ d, (a.buffer d).ok) (hdrive : a.drive.slots.length = 128)
    (hcoast : a.coast.slots.length = 128) (b : BufferId) (e : FifoEntry) : (a.openIn b e).ok := by
  have hnew : (⟨.filling, [e.sample], e.spoils⟩ : RevBuffer).ok := ⟨by simp, nofun⟩
  have hbuffers (d) : (a.openIn b e).buffer d = (a.setBuffer b ⟨.filling, [e.sample], e.spoils⟩).buffer d :=
    Analyzer.buffer_congr rfl rfl d
  obtain ⟨hd, hc⟩ := a.banks_setBuffer b ⟨.filling, [e.sample], e.spoils⟩
  refine (Analyzer.ok_iff _).2 ⟨fun d => ?_, ?_, ?_, ?_⟩
  · rw [hbuffers]; exact Analyzer.buffers_ok_setBuffer hbuf b hnew d
  · rw [hbuffers]; simp [Analyzer.openIn]
  · change (a.setBuffer b _).drive.slots.length = 128; rwa [hd]
  · change (a.setBuffer b _).coast.slots.length = 128; rwa [hc]

/-- An entry with opens yes that is taken keeps the analyzer in order, and its phase follows (R107, R108). -/
theorem Analyzer.takeOpening_keeps {a b : Analyzer} {f : NoiseFields} {e : FifoEntry}
    (h : a.takeOpening f e = .took b) : PhaseFollows a.phase b.phase ∧ (a.ok → b.ok) := by
  have hphase (x : Analyzer) (d : BufferId) : (x.openIn d e).phase = x.phase := x.phase_setBuffer d _
  unfold Analyzer.takeOpening at h
  split_ifs at h
  · cases h
    refine ⟨by rw [hphase]; exact .refl _, fun hok => ?_⟩
    obtain ⟨hbuf, -, hdrive, hcoast⟩ := a.ok_iff.1 hok
    exact Analyzer.ok_openIn hbuf hdrive hcoast _ e
  · cases h
    have hclose := a.closes_close f (a.buffer a.filling).samples.length
    refine ⟨by rw [hphase]; exact hclose.phase, fun hok => ?_⟩
    obtain ⟨hbuf, -, hdrive, hcoast⟩ := a.ok_iff.1 hok
    exact Analyzer.ok_openIn (hclose.buffers_ok hbuf) (hclose.drive ▸ hdrive) (hclose.coast ▸ hcoast) _ e

/-- An entry with opens no that is taken keeps the analyzer in order, and its phase follows (R107, R110). -/
theorem Analyzer.takeFollowing_keeps {a b : Analyzer} {f : NoiseFields} {e : FifoEntry}
    (h : a.takeFollowing f e = .took b) : PhaseFollows a.phase b.phase ∧ (a.ok → b.ok) := by
  unfold Analyzer.takeFollowing at h
  dsimp only at h
  split_ifs at h with hdropped hroom hfolding
  · cases h
    exact ⟨.refl _, id⟩
  · cases h
    refine ⟨by rw [Analyzer.phase_setBuffer]; exact .refl _, fun hok => ?_⟩
    obtain ⟨hbuf, hfill, hdrive, hcoast⟩ := a.ok_iff.1 hok
    have hfilling : (a.buffer a.filling).state = .filling := by simp at hdropped; exact hdropped.2
    obtain ⟨hd, hc⟩ := a.banks_setBuffer a.filling { a.buffer a.filling with
      samples := (a.buffer a.filling).samples ++ [e.sample], spoiled := (a.buffer a.filling).spoiled || e.spoils }
    refine (Analyzer.ok_iff _).2 ⟨Analyzer.buffers_ok_setBuffer hbuf _ ⟨by simpa using hroom, ?_⟩, ?_, hd ▸ hdrive,
      hc ▸ hcoast⟩
    · simp [hfilling]
    · simp [hfilling]
  · cases h
    have hclose := a.closes_close f ((a.buffer a.filling).samples.length + 1)
    refine ⟨hclose.phase, fun hok => ?_⟩
    obtain ⟨hbuf, -, hdrive, hcoast⟩ := a.ok_iff.1 hok
    have hclosed : (a.close f ((a.buffer a.filling).samples.length + 1)).ok := by
      refine (Analyzer.ok_iff _).2 ⟨hclose.buffers_ok hbuf, ?_, hclose.drive ▸ hdrive, hclose.coast ▸ hcoast⟩
      rw [hclose.filling]
      rcases hclose.own with h | ⟨hlen, -⟩
      · rw [h]; simp [RevBuffer.clear]
      · omega
    exact hclosed

/-- The revolution buffers' taking of an entry is a chain of moves (R107 to R111). -/
theorem Moves.takeAudio (s : State) (hr : (s.chan .n).state = .running) : Moves s s.takeAudio := by
  unfold State.takeAudio
  split
  · next e rest hfifo =>
    split
    · exact .refl
    · next a ha =>
      have hkeeps : PhaseFollows s.noise.phase a.phase ∧ (s.noise.ok → a.ok) := by
        unfold Analyzer.takeEntry at ha
        split at ha
        · exact Analyzer.takeOpening_keeps ha
        · exact Analyzer.takeFollowing_keeps ha
      obtain ⟨⟨hphase, hevaluate⟩, hok⟩ := hkeeps
      let popped := s.withInput { s.input with fifo := rest }
      have hinput : Move s popped := .input s _ (.inl hr) fun h => by simp [hfifo] at h ⊢; omega
      have htaken : Moves s (popped.withNoise a) := hinput.moves.trans (.single (.noise popped a hr hphase hevaluate hok))
      dsimp only
      split
      · exact htaken.trans (Moves.endStage (popped.withNoise a) .n _ (.inr hr) (StageEnd.okFor_cutShort _ _))
      · exact htaken
  · exact .refl

/-- REVOLUTION_ENTRY_TAKEN is a chain of moves (R107). -/
theorem Moves.revolutionEntryTaken (s : State) : ∃ t, execRevolutionEntryTaken s = .next t ∧ Moves s t := by
  refine ⟨_, rfl, Moves.unlessReset ?_⟩
  split
  · next hl => exact Moves.takeAudio s (State.of_listening hl).1
  · exact .refl

/-- A fold keeps the number of slots (R112). -/
theorem length_foldSamples (len k : Nat) (samples : List Int) (slots : List AccSlot) :
    (foldSamples len k samples slots).length = slots.length := by
  induction samples generalizing k slots with
  | nil => rfl
  | cons v vs ih => unfold foldSamples; rw [ih, List.length_modify]

/-- Emptying a buffer keeps an analyzer in order, whatever is folded into its banks (R112). -/
theorem Analyzer.ok_folded {a c : Analyzer} (h : a.ok) (b : BufferId) (hfilling : c.filling = a.filling)
    (hx : c.x = (a.setBuffer b .clear).x) (hy : c.y = (a.setBuffer b .clear).y) (hdrive : c.drive.slots.length = 128)
    (hcoast : c.coast.slots.length = 128) : c.ok := by
  obtain ⟨hbuf, hfill, -, -⟩ := a.ok_iff.1 h
  refine (Analyzer.ok_iff _).2 ⟨fun d => ?_, ?_, hdrive, hcoast⟩
  · rw [Analyzer.buffer_congr hx hy]
    exact Analyzer.buffers_ok_setBuffer hbuf b RevBuffer.ok_clear d
  · rw [Analyzer.buffer_congr hx hy, Analyzer.buffer_setBuffer, hfilling]
    split
    · simp [RevBuffer.clear]
    · exact hfill

/-- The FLANK directive is a move (R114). -/
theorem Moves.directFlank (s : State) : Moves s s.directFlank := by
  unfold State.directFlank
  split
  · exact Moves.direct s _ _ _
  · exact .refl

/-- The end of a fold is a chain of moves: the fold, then the next phase (R112 to R115). -/
theorem Moves.endFold (s : State) (b : BufferId) (hr : (s.chan .n).state = .running) : Moves s (s.endFold b) := by
  have hslots (k : AccBank) (samples) (h : k.slots.length = 128) : (k.fold samples).slots.length = 128 := by
    rw [← h]; exact length_foldSamples _ _ _ _
  have hfolded (a : Analyzer) (hphase : a.phase = s.noise.phase) (hfilling : a.filling = s.noise.filling)
      (hx : a.x = (s.noise.setBuffer b .clear).x) (hy : a.y = (s.noise.setBuffer b .clear).y)
      (hbanks : s.noise.ok → a.drive.slots.length = 128 ∧ a.coast.slots.length = 128) : Move s (s.withNoise a) :=
    .noise s a hr (by rw [hphase]; exact id) (by rw [hphase]) fun h =>
      Analyzer.ok_folded h b hfilling hx hy (hbanks h).1 (hbanks h).2
  unfold State.endFold
  dsimp only
  split
  · next hphase =>
    let a : Analyzer := { s.noise.setBuffer b .clear with drive := s.noise.drive.fold (s.noise.buffer b).samples }
    have hdrive : Moves s (s.withNoise a) := .single <| hfolded a (s.noise.phase_setBuffer b _)
      (s.noise.filling_setBuffer b _) rfl rfl fun h =>
        ⟨hslots _ _ h.2.2.2.1, by rw [show a.coast = s.noise.coast from (s.noise.banks_setBuffer b _).2]; exact h.2.2.2.2⟩
    have hsome : a.phase = some .drive := (s.noise.phase_setBuffer b _).trans hphase
    split
    · let p : NoisePhase := if s.noiseFields.flankSettle = 0 then .coast else .flank
      have hp : p ≠ .evaluate := by simp only [p]; split <;> simp
      have hbegun : Move (s.withNoise a) ((s.withNoise a).withNoise { a with phase := some p }) :=
        .noise (s.withNoise a) _ hr (fun _ => rfl) (by simp [State.withNoise, hsome, hp]) fun h => h
      exact (hdrive.trans (.single hbegun)).trans (Moves.directFlank _)
    · exact hdrive
  · next hphase =>
    let a : Analyzer := { s.noise.setBuffer b .clear with coast := s.noise.coast.fold (s.noise.buffer b).samples }
    have hcoast : Moves s (s.withNoise a) := .single <| hfolded a (s.noise.phase_setBuffer b _)
      (s.noise.filling_setBuffer b _) rfl rfl fun h =>
        ⟨by rw [show a.drive = s.noise.drive from (s.noise.banks_setBuffer b _).1]; exact h.2.2.2.1, hslots _ _ h.2.2.2.2⟩
    split
    · exact hcoast.trans (.single (.noiseEvaluates (s.withNoise a) hr))
    · exact hcoast
  · exact .refl

/-- FOLD_END is a chain of moves (R112). -/
theorem Moves.foldEnd (s : State) : ∃ t, execFoldEnd s = .next t ∧ Moves s t := by
  refine ⟨_, rfl, Moves.unlessReset ?_⟩
  split
  · next hl =>
    split
    · exact Moves.endFold s _ (State.of_listening hl).1
    · exact .refl
  · exact .refl

/-- The judgement of a noise stage is complete for NOISE (R57, R119). -/
theorem okFor_judgeNoise (f : NoiseFields) (bands : List BandFields) (r : NoiseResults) :
    (judgeNoise f bands r).okFor .noise = true := by
  unfold judgeNoise
  dsimp only
  split_ifs <;> rfl

/-- NOISE_EVALUATION_END is a chain of moves (R115, R119). -/
theorem Moves.noiseEvaluationEnd (s : State) : ∃ t, execNoiseEvaluationEnd s = .next t ∧ Moves s t := by
  refine ⟨_, rfl, Moves.unlessReset ?_⟩
  split
  · next h =>
    let a : Analyzer := { s.noise with results := some (s.noise.evaluate (s.bankOf .n).bands) }
    have hresults : Move s (s.withNoise a) := .noise s a h.1 id .rfl fun hok => hok
    exact hresults.moves.trans (Moves.endStage (s.withNoise a) .n _ (.inr h.1) (okFor_judgeNoise _ _ _))
  · exact .refl

end Sys2Proof.Machine
end

section
/-! Every command is a chain of moves: the leak analyzer, and the dispatch of all commands. -/

namespace Sys2Proof.Machine

/-! ### The leak analyzer (R129 to R142) -/

/-- What a reading taken leaves: an analyzer that goes on with its timers in order, an end complete for LEAK, or the
evaluation, begun with its timers in order and its queue empty (R130 to R137). -/
def LeakTaken.Follows (a : LeakAnalyzer) : LeakTaken → Prop
  | .goesOn b => (b.phase.isSome = a.phase.isSome ∧ (b.phase = some .evaluate ↔ a.phase = some .evaluate)) ∧
      b.queue = a.queue ∧ (a.timersOk → b.timersOk)
  | .ends e => e.okFor .leak = true
  | .evaluates b => b.phase = some .evaluate ∧ b.queue = [] ∧ (a.timersOk → b.timersOk)

/-- A reading that changes nothing follows. -/
theorem LeakTaken.follows_self (a : LeakAnalyzer) : (LeakTaken.goesOn a).Follows a := ⟨⟨rfl, .rfl⟩, rfl, id⟩

/-- Before MEASURE neither its timers run nor has it expired (R126). -/
theorem LeakAnalyzer.timersOk.before_measure {a : LeakAnalyzer} (h : a.timersOk) (hm : a.phase ≠ some .measure)
    (he : a.phase ≠ some .evaluate) : a.measureTimer = none ∧ a.endTimer = none ∧ a.measureExpired = false := by
  obtain ⟨-, -, hmeasure, hend, hexpired, -⟩ := h
  refine ⟨?_, ?_, ?_⟩
  · cases hx : a.measureTimer with
    | none => rfl
    | some x => exact absurd (hmeasure (by simp [hx])).1 hm
  · cases hx : a.endTimer with
    | none => rfl
    | some x => exact absurd (hend.1 (by simp [hx])).1 hm
  · by_contra hx
    rcases (hexpired (by simpa using hx)).1 with h | h
    · exact hm h
    · exact he h

/-- MEASURE begins with its timers in order (R133). -/
theorem LeakAnalyzer.timersOk_beginMeasure {a : LeakAnalyzer} (hfill : a.fillTimer = none)
    (hmeasure : a.measureTimer = none) (hend : a.endTimer = none) (hexpired : a.measureExpired = false) :
    a.beginMeasure.timersOk := by
  simp [LeakAnalyzer.timersOk, LeakAnalyzer.beginMeasure, hfill, hmeasure, hend, hexpired]

/-- A reading taken in FILL follows (R130). -/
theorem LeakAnalyzer.takeFill_follows (a : LeakAnalyzer) (f : LeakFields) (r : LeakPoint) (h : a.phase = some .fill) :
    (a.takeFill f r).Follows a := by
  unfold LeakAnalyzer.takeFill
  dsimp only
  split
  · rfl
  · split
    · unfold LeakAnalyzer.beginSettle
      dsimp only
      split
      · refine ⟨by simp [LeakAnalyzer.beginMeasure, h], rfl, fun hok => ?_⟩
        obtain ⟨hmeasure, hend, hexpired⟩ := hok.before_measure (by simp [h]) (by simp [h])
        exact LeakAnalyzer.timersOk_beginMeasure rfl hmeasure hend hexpired
      · refine ⟨by simp [h], rfl, fun hok => ?_⟩
        obtain ⟨hmeasure, hend, hexpired⟩ := hok.before_measure (by simp [h]) (by simp [h])
        simp [LeakAnalyzer.timersOk, hmeasure, hend, hexpired]
    · exact ⟨by simp, rfl, fun hok => hok⟩

/-- A reading taken follows (R127 to R137). -/
theorem LeakAnalyzer.take_follows (a : LeakAnalyzer) (f : LeakFields) (r : LeakReading) : (a.take f r).Follows a := by
  unfold LeakAnalyzer.take
  split
  · exact LeakTaken.follows_self a
  · next p =>
    split
    · next h => exact a.takeFill_follows f p h
    · unfold LeakAnalyzer.takeSettle
      split_ifs
      · rfl
      · rfl
      · exact LeakTaken.follows_self a
    · next h =>
      unfold LeakAnalyzer.takeMeasure
      split_ifs with hexpired hstart
      · refine ⟨rfl, rfl, fun ⟨h1, h2, h3, h4, h5, h6⟩ => ?_⟩
        have hstarted := (h5 hexpired).2
        rw [h] at h1 h2 h3
        simp only [hexpired] at h3
        exact ⟨by simpa using h1, by simpa using h2, fun hm => by simpa using h3 hm, by simp,
          fun _ => ⟨.inr rfl, hstarted⟩, fun _ => ⟨hstarted, rfl⟩⟩
      · refine ⟨⟨rfl, .rfl⟩, rfl, fun ⟨h1, h2, h3, h4, h5, h6⟩ => ?_⟩
        exact ⟨h1, h2, fun _ => ⟨h, by simpa using hexpired, rfl⟩, h4, fun he => absurd he hexpired,
          fun he => by simp [h] at he⟩
      · exact LeakTaken.follows_self a
    all_goals exact LeakTaken.follows_self a

/-- A leak reading taken is a chain of moves (R128 to R137). -/
theorem Moves.takeLeak (s : State) (c : LeakCh) : Moves s (s.takeLeak c) := by
  unfold State.takeLeak
  split
  · next r rest hr hq =>
    have htake := LeakAnalyzer.take_follows { s.leak c with queue := rest } (s.leakFields c) r
    have hlen : (s.leak c).queue.length ≤ Config.readingLimit → rest.length ≤ Config.readingLimit := fun h => by
      simp [hq] at h; omega
    split
    · next a ha =>
      rw [ha] at htake
      obtain ⟨⟨hphase, hevaluate⟩, hqueue, htimers⟩ := htake
      exact .single (.leak s c a hr (by rw [hphase]; exact id) (fun h => ⟨htimers h, hevaluate⟩) fun h => hqueue ▸ hlen h)
    · next e he =>
      rw [he] at htake
      have hset : Move s (s.setLeak c { s.leak c with queue := rest }) := .leak s c _ hr id (fun h => ⟨h, .rfl⟩) hlen
      exact hset.moves.trans (Moves.endStage _ _ _ (.inr (by simpa using hr)) (stage_leakCh_id c ▸ htake))
    · next a ha =>
      rw [ha] at htake
      obtain ⟨hphase, hqueue, htimers⟩ := htake
      have hset := Move.leakEvaluates s c a hr hphase htimers hqueue
      unfold State.beginLeakEvaluation State.directVent
      split
      · exact hset.moves.trans (Moves.direct _ _ _ _)
      · exact hset.moves
  · exact .refl

/-- FILL_TIMER_EXPIRY is a chain of moves (R131). -/
theorem Moves.fillTimerExpiry (c : LeakCh) (s : State) : ∃ t, execFillTimerExpiry c s = .next t ∧ Moves s t := by
  refine ⟨_, rfl, Moves.unlessReset ?_⟩
  split
  · next h => exact Moves.endStage s _ _ (.inr h.1) (by rw [stage_leakCh_id]; rfl)
  · exact .refl

/-- LEAK_SETTLE_TIMER_EXPIRY is a move (R133). -/
theorem Moves.leakSettleTimerExpiry (c : LeakCh) (s : State) :
    ∃ t, execLeakSettleTimerExpiry c s = .next t ∧ Moves s t := by
  refine ⟨_, rfl, Moves.unlessReset ?_⟩
  split
  · next h =>
    refine .single (.leak s c _ h.1 (fun _ => rfl) (fun hok => ?_) id)
    have hphase : (s.leak c).phase = some .settle := hok.2.1.1 h.2
    have hfill : (s.leak c).fillTimer = none := by simpa [hphase] using hok.1
    obtain ⟨hmeasure, hend, hexpired⟩ := hok.before_measure (by simp [hphase]) (by simp [hphase])
    exact ⟨LeakAnalyzer.timersOk_beginMeasure hfill hmeasure hend hexpired,
      by simp [LeakAnalyzer.beginMeasure, hphase]⟩
  · exact .refl

/-- MEASURE_TIMER_EXPIRY is a move (R136). -/
theorem Moves.measureTimerExpiry (c : LeakCh) (s : State) :
    ∃ t, execMeasureTimerExpiry c s = .next t ∧ Moves s t := by
  refine ⟨_, rfl, Moves.unlessReset ?_⟩
  split
  · next h =>
    refine .single (.leak s c _ h.1 id (fun hok => ⟨?_, .rfl⟩) id)
    obtain ⟨hphase, -, hstarted⟩ := hok.2.2.1 h.2
    obtain ⟨hfill, hsettle, -⟩ := hok
    simp [hphase] at hfill hsettle
    simp [LeakAnalyzer.timersOk, hphase, hstarted, hfill, hsettle]
  · exact .refl

/-- END_READING_TIMER_EXPIRY is a chain of moves (R138). -/
theorem Moves.endReadingTimerExpiry (c : LeakCh) (s : State) :
    ∃ t, execEndReadingTimerExpiry c s = .next t ∧ Moves s t := by
  refine ⟨_, rfl, Moves.unlessReset ?_⟩
  split
  · next h => exact Moves.endStage s _ _ (.inr h.1) (StageEnd.okFor_cutShort _ _)
  · exact .refl

/-- LEAK_EVALUATION_END is a chain of moves (R142). -/
theorem Moves.leakEvaluationEnd (c : LeakCh) (s : State) :
    ∃ t, execLeakEvaluationEnd c s = .next t ∧ Moves s t := by
  refine ⟨_, rfl, Moves.unlessReset ?_⟩
  split
  · next h =>
    unfold State.evaluateLeak
    split
    · dsimp only
      have hjudged (f : LeakFields) (r : LeakResults) : (judgeLeak f r).okFor .leak = true := by
        unfold judgeLeak
        dsimp only
        split <;> rfl
      have hresults (r : LeakResults) : Move s (s.setLeak c { s.leak c with results := some r }) :=
        .leak s c _ h.1 id (fun hok => ⟨hok, .rfl⟩) id
      exact (hresults _).moves.trans
        (Moves.endStage _ _ _ (.inr (by simpa using h.1)) (stage_leakCh_id c ▸ hjudged _ _))
    · exact .refl
  · exact .refl

/-! ### All commands -/

/-- Every command answers a next state that a chain of moves leads to. -/
theorem exec_moves (c : Instr) (s : State) : ∃ t, exec c s = .next t ∧ Moves s t := by
  cases c with
  | requestFrame p tag code payload => exact ⟨_, rfl, Moves.unlessReset (Moves.receiveLine s p _)⟩
  | readingFrame p tag payload => exact ⟨_, rfl, Moves.unlessReset (Moves.receiveLine s p _)⟩
  | garbledFrame p line => exact ⟨_, rfl, Moves.unlessReset (Moves.receiveLine s p line)⟩
  | interbyteTimeout p =>
    refine ⟨_, rfl, Moves.unlessReset ?_⟩
    split
    · exact Moves.setPort s p _ rfl fun h => ⟨nofun, h.2⟩
    · exact .refl
  | frameSent p =>
    refine ⟨_, rfl, Moves.unlessReset (Moves.setPort s p _ rfl ?_)⟩
    refine Port.ok_of_tx rfl rfl fun h => le_trans ?_ h
    exact ((List.tail_sublist _).filter _).length_le
  | resetAssert => exact ⟨_, rfl, .single (.powerOn s true)⟩
  | resetDeassert => exact ⟨_, rfl, .single (.settings s { s.settings with resetLow := false })⟩
  | admitAxle => exact ⟨_, rfl, Moves.serve s _ _ Moves.admitItem⟩
  | lookup ds => exact ⟨_, rfl, Moves.serveReading s _ ds _ Moves.lookupItem⟩
  | list ds => exact ⟨_, rfl, Moves.serveReading s _ ds _ Moves.listItem⟩
  | holdFile ds => exact ⟨_, rfl, Moves.serveReading s _ ds _ Moves.holdFileItem⟩
  | liftHold ds => exact ⟨_, rfl, Moves.serveReading s _ ds _ Moves.liftHoldItem⟩
  | reopenStage ds => exact ⟨_, rfl, Moves.serveReading s _ ds _ Moves.reopenStageItem⟩
  | claim ds => exact ⟨_, rfl, Moves.serveReading s _ ds _ Moves.claimItem⟩
  | start ds => exact ⟨_, rfl, Moves.serveReading s _ ds _ Moves.startItem⟩
  | abandon ds => exact ⟨_, rfl, Moves.serveReading s _ ds _ Moves.abandonItem⟩
  | result ds => exact ⟨_, rfl, Moves.serveReading s _ ds _ Moves.resultItem⟩
  | release ds => exact ⟨_, rfl, Moves.serveReading s _ ds _ Moves.releaseItem⟩
  | report ds => exact ⟨_, rfl, Moves.serveReading s _ ds _ Moves.reportItem⟩
  | forceRetire ds => exact ⟨_, rfl, Moves.serveReading s _ ds _ Moves.forceRetireItem⟩
  | setStray => exact ⟨_, rfl, Moves.serve s _ _ Moves.setStrayItem⟩
  | openBank => exact ⟨_, rfl, Moves.serve s _ _ Moves.openBankItem⟩
  | publishBank => exact ⟨_, rfl, Moves.serve s _ _ Moves.publishBankItem⟩
  | discardBank => exact ⟨_, rfl, Moves.serve s _ _ Moves.discardBankItem⟩
  | bankStatus => exact ⟨_, rfl, Moves.serve s _ _ Moves.bankStatusItem⟩
  | cursor => exact ⟨_, rfl, Moves.serve s _ _ Moves.cursorItem⟩
  | data => exact ⟨_, rfl, Moves.serve s _ _ Moves.dataItem⟩
  | readData => exact ⟨_, rfl, Moves.serve s _ _ Moves.readDataItem⟩
  | setWindow => exact ⟨_, rfl, Moves.serve s _ _ Moves.setWindowItem⟩
  | setDefault => exact ⟨_, rfl, Moves.serve s _ _ Moves.setDefaultItem⟩
  | readWindow => exact ⟨_, rfl, Moves.serve s _ _ Moves.readWindowItem⟩
  | setAudio => exact ⟨_, rfl, Moves.serve s _ _ Moves.setAudioItem⟩
  | audioStatus => exact ⟨_, rfl, Moves.serve s _ _ Moves.audioStatusItem⟩
  | setRole => exact ⟨_, rfl, Moves.serve s _ _ Moves.setRoleItem⟩
  | setArbiter => exact ⟨_, rfl, Moves.serve s _ _ Moves.setArbiterItem⟩
  | setPriority => exact ⟨_, rfl, Moves.serve s _ _ Moves.setPriorityItem⟩
  | status => exact ⟨_, rfl, Moves.serve s _ _ Moves.statusItem⟩
  | cellReset ds => exact Moves.execCellReset ds s
  | readCapture => exact ⟨_, rfl, Moves.serve s _ _ Moves.readCaptureItem⟩
  | clearCapture => exact ⟨_, rfl, Moves.serve s _ _ Moves.clearCaptureItem⟩
  | setRoute => exact ⟨_, rfl, Moves.serve s _ _ Moves.setRouteItem⟩
  | enableSet => exact ⟨_, rfl, Moves.serve s _ _ fun _ _ u => Moves.enableKinds u _ _⟩
  | enableClear => exact ⟨_, rfl, Moves.serve s _ _ fun _ _ u => Moves.enableKinds u _ _⟩
  | setMulti => exact ⟨_, rfl, Moves.serve s _ _ Moves.setMultiItem⟩
  | endPostingApplied ds => exact Moves.endPostingApplied ds s
  | lapsePostingApplied ds => exact Moves.lapsePostingApplied ds s
  | claimStartExpiry c => exact Moves.claimStartExpiry c s
  | stageTimeLimitExpiry c => exact Moves.stageTimeLimitExpiry c s
  | runinReadingTaken c => exact ⟨_, rfl, Moves.unlessReset (Moves.takeRunIn s c)⟩
  | settleTimerExpiry c => exact Moves.settleTimerExpiry c s
  | stepTimerExpiry c => exact Moves.stepTimerExpiry c s
  | audioHalfEnd level bits => exact Moves.audioHalfEnd level bits s
  | tachEdge => exact Moves.tachEdge s
  | tachWatchdogExpiry => exact Moves.tachWatchdogExpiry s
  | revolutionEntryTaken => exact Moves.revolutionEntryTaken s
  | foldEnd => exact Moves.foldEnd s
  | noiseEvaluationEnd => exact Moves.noiseEvaluationEnd s
  | leakReadingTaken c => exact ⟨_, rfl, Moves.unlessReset (Moves.takeLeak s c)⟩
  | fillTimerExpiry c => exact Moves.fillTimerExpiry c s
  | leakSettleTimerExpiry c => exact Moves.leakSettleTimerExpiry c s
  | measureTimerExpiry c => exact Moves.measureTimerExpiry c s
  | endReadingTimerExpiry c => exact Moves.endReadingTimerExpiry c s
  | leakEvaluationEnd c => exact Moves.leakEvaluationEnd c s

/-- A step takes the front command off the queue and makes its moves; on an empty queue there is none. -/
theorem step_moves {s t : State} (h : step s = .next t) : ∃ rest, Moves { s with pending := rest } t := by
  unfold step at h
  split at h
  · cases h
    exact ⟨s.pending, .refl⟩
  · next c rest _ =>
    obtain ⟨u, hu, hm⟩ := exec_moves c { s with pending := rest }
    cases hu.symm.trans h
    exact ⟨rest, hm⟩

/-- A condition that every move keeps, and that does not speak of the queue of commands, is kept by every step. -/
theorem kept_by_step {P : State → Prop} (hmove : ∀ {s t}, Move s t → P s → P t)
    (hpending : ∀ s rest, P s → P { s with pending := rest }) {s t : State} (h : P s) (hstep : step s = .next t) :
    P t := by
  obtain ⟨rest, hm⟩ := step_moves hstep
  clear hstep
  induction hm with
  | refl => exact hpending s rest h
  | tail _ hlast ih => exact hmove hlast ih

/-! ### The queue of commands -/

/-- No move touches the queue of commands. -/
theorem Move.pending {s t : State} (h : Move s t) : t.pending = s.pending := by
  have happly (item : CaptureItem) (p : Posting) (effect : State → State)
      (heffect : ∀ u, (effect u).pending = u.pending) : (s.applyPosting item p effect).pending = s.pending := by
    unfold State.applyPosting
    dsimp only
    split
    · simp
    · split <;> simp [heffect]
  cases h with
  | applyEnd => exact happly _ _ _ fun u => by simp [State.applyEnd]
  | applyLapse => exact happly _ _ _ fun u => by simp [State.applyLapse]
  | start => cases ‹ChannelId› <;> simp [State.startStage, State.startAnalyzer, State.setMonitor, State.setLeak]
  | forceRetire i =>
    change (s.freed i .forced).pending = s.pending
    unfold State.freed
    split <;> simp
  | admitFile => rw [State.recompute_pending]; rfl
  | claim => rw [State.recompute_pending]; rfl
  | ports | settings | windows | input | noise | noiseEvaluates | settle | powerOn | release => rfl
  | _ => simp

/-- Settles O2: every command is a chain of moves, and no move touches the queue. -/
theorem everyCommandAnswersNextAndKeepsTheQueue : Obligations.EveryCommandAnswersNextAndKeepsTheQueue := by
  intro c s
  obtain ⟨t, ht, hm⟩ := exec_moves c s
  refine ⟨t, ht, ?_⟩
  clear ht
  induction hm with
  | refl => rfl
  | tail _ hlast ih => exact hlast.pending.trans ih

end Sys2Proof.Machine
end

section
/-! What every step keeps: the links, the queues and buffers, and the recipe store. -/

namespace Sys2Proof.Machine

/-! ### What the shared operations keep -/

/-- The engine-side end of a slot's bound channel keeps what an engine-side end keeps (R63, R64). -/
theorem freed_kept {P : State → Prop} (hend : ∀ u c cause, P u → P (u.engineEnd c cause)) {s : State} (h : P s)
    (i : SlotId) (cause : Cause) : P (s.freed i cause) := by
  unfold State.freed
  split
  · exact hend _ _ _ h
  · exact h

/-- The damage of a file keeps what the loss of its records, an engine-side end and a recomputation keep (R180). -/
theorem damage_kept {P : State → Prop} (hlost : ∀ u i f, P u → P ((u.setErrors i []).setFile i f))
    (hend : ∀ u c cause, P u → P (u.engineEnd c cause)) (hrecompute : ∀ u i, P u → P (u.recompute i)) {s : State}
    (h : P s) (i : SlotId) (f : FileRec) : P (s.damage i f) :=
  hrecompute _ i (freed_kept hend (hlost s i _ h) i .damaged)

/-- The read of a file keeps what the capture of an error, words written back and the damage of a live file keep
(R178 to R183). -/
theorem readFile_kept {P : State → Prop} (hcapture : ∀ u i item errs, P u → P (u.captureError i item errs))
    (herrors : ∀ (u : State) i errs, errs.Sublist (u.slot i).errors → P u → P (u.setErrors i errs))
    (hdamage : ∀ u i f, u.file i = some f → P u → P (u.damage i f)) {s : State} (h : P s) (item : CaptureItem)
    (i : SlotId) : P (s.readFile item i) := by
  unfold State.readFile
  dsimp only
  split
  · next f hf =>
    split
    · exact h
    · split
      · exact herrors _ i _ (by simp [writtenBack]) (hcapture s i item _ h)
      · exact hdamage _ i f (by simpa using hf) (hcapture s i item _ h)
  · exact h

/-- A posting applied keeps what its removal, the freeing of its channel, the read and its effect keep
(R54, R60, R61). -/
theorem applyPosting_kept {P : State → Prop} {p : Posting} {effect : State → State} (hpop : ∀ u, P u → P u.popPosting)
    (hrest : ∀ u c, P u → P (u.restChannel c)) (hread : ∀ u item i, P u → P (u.readFile item i))
    (heffect : ∀ u, P u → P (effect u)) {s : State} (h : P s) (item : CaptureItem) :
    P (s.applyPosting item p effect) := by
  unfold State.applyPosting
  dsimp only
  split
  · unfold State.discardPosting
    split
    · exact hrest _ _ (hpop s h)
    · exact hpop s h
  · split
    · exact heffect _ (hread _ _ _ (hpop s h))
    · exact hread _ _ _ (hpop s h)

/-- The effect of a LAPSE posting keeps what its parts keep (R54). -/
theorem applyLapse_kept {P : State → Prop} {p : Posting}
    (hstage : ∀ u, P u → P ((u.modStage p.handle p.stage StageRecord.lapse).restChannel p.channel))
    (hrecompute : ∀ u i, P u → P (u.recompute i)) (hraise : ∀ u k name d, P u → P (u.raise k name d)) {s : State}
    (h : P s) : P (s.applyLapse p) := by
  have hlapsed := hrecompute _ p.handle.slot (hstage s h)
  unfold State.applyLapse State.noticeLapse
  dsimp only
  split
  · exact hraise _ _ _ _ hlapsed
  · exact hlapsed

/-! ### The links (R159 to R163) -/

/-- The links are in order by the ports alone. -/
theorem LinkInv.congr {s t : State} (hp : t.ports = s.ports) (h : LinkInv s) : LinkInv t := by
  have hport (p) : t.port p = s.port p := State.port_congr hp p
  simpa only [LinkInv, hport] using h

/-- A chain of port moves that keeps the links in order. -/
theorem LinkInv.of_ports_only {s t : State} (h : LinkInv s)
    (hv : ∀ p : PortId, (t.port p).role = (s.port p).role ∧ ((s.port p).ok → (t.port p).ok)) : LinkInv t :=
  (h.withPorts t.ports hv).congr rfl

/-- A directive keeps the links in order (R46, R160). -/
theorem LinkInv.direct {s : State} (h : LinkInv s) (c : ChannelId) (d : Directive) (payload : List Byte) :
    LinkInv (s.direct c d payload) := by
  unfold State.direct
  split
  · next q _ =>
    refine h.of_ports_only fun p => ?_
    simp only [State.hand, State.port_setPort]
    split
    · next hq => subst hq; exact ⟨rfl, Port.ok_hand _ (by simp)⟩
    · exact ⟨rfl, id⟩
  · exact h

/-- A raised notice keeps the links in order (R160, R184). -/
theorem LinkInv.raise {s : State} (h : LinkInv s) (k : NoticeKind) (name : List Byte) (d : Byte) :
    LinkInv (s.raise k name d) := by
  refine h.of_ports_only fun p => ?_
  rw [State.port_raise]
  split
  · exact ⟨Port.handNotice_role _ _, Port.ok_handNotice _⟩
  · exact ⟨rfl, id⟩

/-- A recomputation keeps the links in order (R146). -/
theorem LinkInv.recompute {s : State} (h : LinkInv s) (i : SlotId) : LinkInv (s.recompute i) := by
  unfold State.recompute
  split
  · split
    · exact h
    · exact (h.congr (State.setFile_ports _ _ _)).raise _ _ _
  · exact h

/-- An engine-side end keeps the links in order (R62). -/
theorem LinkInv.engineEnd {s : State} (h : LinkInv s) (c : ChannelId) (cause : Cause) : LinkInv (s.engineEnd c cause) := by
  unfold State.engineEnd
  split
  · refine LinkInv.recompute (LinkInv.direct ?_ _ _ _) _
    exact h.congr (by simp)
  · exact h

/-- The capture of an error keeps the links in order (R181, R183). -/
theorem LinkInv.captureError {s : State} (h : LinkInv s) (i : SlotId) (item : CaptureItem) (errs : RecordErrors) :
    LinkInv (s.captureError i item errs) := by
  refine LinkInv.congr (State.ports_captureError s i item errs) ?_
  split
  · exact h.raise _ _ _
  · exact h

/-- The damage of a file keeps the links in order (R180). -/
theorem LinkInv.damage {s : State} (h : LinkInv s) (i : SlotId) (f : FileRec) : LinkInv (s.damage i f) :=
  damage_kept (P := LinkInv) (fun _ _ _ h => h.congr (by simp)) (fun _ c x h => h.engineEnd c x)
    (fun _ i h => h.recompute i) h i f

/-- The read of a file keeps the links in order (R14). -/
theorem LinkInv.readFile {s : State} (h : LinkInv s) (item : CaptureItem) (i : SlotId) : LinkInv (s.readFile item i) :=
  readFile_kept (P := LinkInv) (fun _ i item errs h => h.captureError i item errs) (fun _ _ _ _ h => h.congr (by simp))
    (fun _ i f _ h => h.damage i f) h item i

/-- A posting applied keeps the links in order where its effect does (R54, R60). -/
theorem LinkInv.applyPosting {s : State} (h : LinkInv s) (item : CaptureItem) {p : Posting} {effect : State → State}
    (heffect : ∀ u, LinkInv u → LinkInv (effect u)) : LinkInv (s.applyPosting item p effect) :=
  applyPosting_kept (P := LinkInv) (fun _ h => h.congr rfl) (fun _ _ h => h.congr (by simp))
    (fun _ item i h => h.readFile item i) heffect h item

/-- A port at power-on (R170). -/
theorem State.port_powerOn (pending : List Instr) (low : Bool) (p : PortId) :
    (State.powerOn pending low).port p = .powerOn (if p = 0 then .supervisor else .unassigned) := by
  fin_cases p <;> rfl

/-- The links are in order at power-on (R170). -/
theorem LinkInv.powerOn (pending : List Instr) (low : Bool) : LinkInv (.powerOn pending low) := by
  have hrole (p : PortId) : ((State.powerOn pending low).port p).role = if p = 0 then .supervisor else .unassigned := by
    rw [State.port_powerOn]; rfl
  refine ⟨fun p => ?_, fun p q => ?_, fun p => ?_⟩
  · rw [hrole]; by_cases hp : p = 0 <;> simp [hp]
  · rw [hrole, hrole]; by_cases hp : p = 0 <;> by_cases hq : q = 0 <;> simp [hp, hq]
  · rw [State.port_powerOn]; exact ⟨nofun, Nat.zero_le _, nofun⟩

/-- Every move keeps the links in order. -/
theorem LinkInv.move {s t : State} (hm : Move s t) (h : LinkInv s) : LinkInv t := by
  cases hm with
  | ports v hlinks => exact hlinks h
  | damage i f => exact h.damage i f
  | engineEnd c cause => exact h.engineEnd c cause
  | applyEnd item p rest e => exact h.applyPosting item fun u hu => LinkInv.recompute (hu.congr (by simp)) _
  | applyLapse item p rest =>
    exact h.applyPosting item fun u hu => applyLapse_kept (P := LinkInv) (fun _ h => h.congr (by simp))
      (fun _ i h => h.recompute i) (fun _ k n d h => h.raise k n d) hu
  | forceRetire i f =>
    exact (freed_kept (P := LinkInv) (fun _ c x h => h.engineEnd c x) h i .forced).congr rfl
  | admitFile i serial v b => exact (h.congr (s := s) (t := s.openFile i serial v b) rfl).recompute i
  | holds i f holds => exact LinkInv.recompute (h.congr (by simp)) i
  | reopen i f rs t => exact LinkInv.recompute (h.congr (by simp)) i
  | claim i f rs t c => exact LinkInv.recompute (h.congr (s := s) (t := s.bindChannel i f t c) rfl) i
  | start c b =>
    refine LinkInv.recompute (h.congr ?_) _
    rw [(State.startAnalyzer_frame _ c).2.2.2.2.2.2]
    simp
  | powerOn low => exact LinkInv.powerOn s.pending low
  | settings | windows | input | noise | noiseEvaluates | settle | release => exact h.congr rfl
  | _ => exact h.congr (by simp)

/-- Settles O52: every move keeps the links in order. -/
theorem everyStepKeepsTheLinksInOrder : Obligations.EveryStepKeepsTheLinksInOrder :=
  fun _ _ h hstep => kept_by_step LinkInv.move (fun _ _ h => h) h hstep

/-! ### The queues and buffers (R70, R98, R105, R108, R112, R128) -/

/-- The queues and buffers are in order by the analyzers alone. -/
theorem QueueInv.congr {s t : State} (hm : t.monitors = s.monitors) (hi : t.input = s.input) (hn : t.noise = s.noise)
    (hl : t.leaks = s.leaks) (h : QueueInv s) : QueueInv t := by
  unfold QueueInv
  rw [hm, hi, hn, hl]
  exact h

/-- A cleared analyzer is in order (R105). -/
theorem Analyzer.ok_cleared : Analyzer.cleared.ok :=
  ⟨RevBuffer.ok_clear, RevBuffer.ok_clear, by simp [Analyzer.buffer, Analyzer.cleared, RevBuffer.clear], rfl, rfl⟩

/-- The queues and buffers stay in order when an analyzer is cleared (R87, R102, R125, R144). -/
theorem QueueInv.clearAnalyzer {s : State} (h : QueueInv s) (c : ChannelId) : QueueInv (s.clearAnalyzer c) := by
  obtain ⟨hma, hmb, hla, hlb, hfifo, hnoise⟩ := h
  cases c with
  | ra => exact ⟨Nat.zero_le _, hmb, hla, hlb, hfifo, hnoise⟩
  | rb => exact ⟨hma, Nat.zero_le _, hla, hlb, hfifo, hnoise⟩
  | n => exact ⟨hma, hmb, hla, hlb, Nat.zero_le _, Analyzer.ok_cleared⟩
  | la => exact ⟨hma, hmb, Nat.zero_le _, hlb, hfifo, hnoise⟩
  | lb => exact ⟨hma, hmb, hla, Nat.zero_le _, hfifo, hnoise⟩

/-- The queues and buffers stay in order when a channel is freed (R60, R62). -/
theorem QueueInv.restChannel {s : State} (h : QueueInv s) (c : ChannelId) : QueueInv (s.restChannel c) :=
  QueueInv.clearAnalyzer (QueueInv.congr (t := s.setChan c .rest) rfl rfl rfl rfl h) c

/-- A recomputation keeps the queues and buffers in order (R146). -/
theorem QueueInv.recompute {s : State} (h : QueueInv s) (i : SlotId) : QueueInv (s.recompute i) :=
  h.congr (by simp) (by simp) (by simp) (by simp)

/-- A cut-short directive with its notice keeps the queues and buffers in order (R62). -/
theorem QueueInv.directEnd {s : State} (h : QueueInv s) (c : ChannelId) (b : Binding) (code : EndCode) (cause : Cause) :
    QueueInv (s.directEnd c b code cause) :=
  h.congr (by simp) (by simp) (by simp) (by simp)

/-- An engine-side end keeps the queues and buffers in order (R62). -/
theorem QueueInv.engineEnd {s : State} (h : QueueInv s) (c : ChannelId) (cause : Cause) :
    QueueInv (s.engineEnd c cause) := by
  unfold State.engineEnd
  split
  · next b _ =>
    have hrest (g) : QueueInv (((s.dropPosting c).modStage b.handle b.stage g).restChannel c) :=
      QueueInv.restChannel (h.congr (by simp) (by simp) (by simp) (by simp)) c
    exact QueueInv.recompute (QueueInv.directEnd (hrest _) c b _ _) _
  · exact h

/-- The read of a file keeps the queues and buffers in order (R14). -/
theorem QueueInv.readFile {s : State} (h : QueueInv s) (item : CaptureItem) (i : SlotId) :
    QueueInv (s.readFile item i) :=
  readFile_kept (P := QueueInv) (fun _ _ _ _ h => h.congr (by simp) (by simp) (by simp) (by simp))
    (fun _ _ _ _ h => h.congr rfl rfl rfl rfl)
    (fun _ i f _ h => damage_kept (P := QueueInv) (fun _ _ _ h => h.congr rfl rfl rfl rfl)
      (fun _ c x h => h.engineEnd c x) (fun _ i h => h.recompute i) h i f) h item i

/-- A posting applied keeps the queues and buffers in order where its effect does (R54, R60). -/
theorem QueueInv.applyPosting {s : State} (h : QueueInv s) (item : CaptureItem) {p : Posting} {effect : State → State}
    (heffect : ∀ u, QueueInv u → QueueInv (effect u)) : QueueInv (s.applyPosting item p effect) :=
  applyPosting_kept (P := QueueInv) (fun _ h => h.congr rfl rfl rfl rfl) (fun _ c h => h.restChannel c)
    (fun _ item i h => h.readFile item i) heffect h item

/-- The analyzer set up by an accepted START is in order (R72, R106, R129). -/
theorem QueueInv.startAnalyzer {s : State} (h : QueueInv s) (c : ChannelId) : QueueInv (s.startAnalyzer c) := by
  obtain ⟨hma, hmb, hla, hlb, hfifo, hnoise⟩ := h
  cases c with
  | ra => exact ⟨Nat.zero_le _, hmb, hla, hlb, hfifo, hnoise⟩
  | rb => exact ⟨hma, Nat.zero_le _, hla, hlb, hfifo, hnoise⟩
  | n => exact ⟨hma, hmb, hla, hlb, Nat.zero_le _, Analyzer.ok_cleared⟩
  | la => exact ⟨hma, hmb, Nat.zero_le _, hlb, hfifo, hnoise⟩
  | lb => exact ⟨hma, hmb, hla, Nat.zero_le _, hfifo, hnoise⟩

/-- The queues and buffers stay in order when a monitor with a queue in order is written. -/
theorem QueueInv.setMonitor {s : State} (h : QueueInv s) (c : RunInCh) (m : Monitor)
    (hm : (s.monitor c).queue.length ≤ Config.readingLimit → m.queue.length ≤ Config.readingLimit) :
    QueueInv (s.setMonitor c m) := by
  obtain ⟨hma, hmb, hrest⟩ := h
  cases c with
  | a => exact ⟨hm hma, hmb, hrest⟩
  | b => exact ⟨hma, hm hmb, hrest⟩

/-- The queues and buffers stay in order when a leak analyzer with a queue in order is written. -/
theorem QueueInv.setLeak {s : State} (h : QueueInv s) (c : LeakCh) (a : LeakAnalyzer)
    (ha : (s.leak c).queue.length ≤ Config.readingLimit → a.queue.length ≤ Config.readingLimit) :
    QueueInv (s.setLeak c a) := by
  obtain ⟨hma, hmb, hla, hlb, hrest⟩ := h
  cases c with
  | a => exact ⟨hma, hmb, ha hla, hlb, hrest⟩
  | b => exact ⟨hma, hmb, hla, ha hlb, hrest⟩

/-- The queues and buffers are in order at power-on (R170). -/
theorem QueueInv.powerOn (pending : List Instr) (low : Bool) : QueueInv (.powerOn pending low) :=
  ⟨Nat.zero_le _, Nat.zero_le _, Nat.zero_le _, Nat.zero_le _, Nat.zero_le _, Analyzer.ok_cleared⟩

/-- Every move keeps the queues and buffers in order. -/
theorem QueueInv.move {s t : State} (hm : Move s t) (h : QueueInv s) : QueueInv t := by
  cases hm with
  | input i _ hfifo =>
    obtain ⟨hma, hmb, hla, hlb, hf, hnoise⟩ := h
    exact ⟨hma, hmb, hla, hlb, hfifo hf, hnoise⟩
  | noise a _ _ _ hok =>
    obtain ⟨hma, hmb, hla, hlb, hf, hnoise⟩ := h
    exact ⟨hma, hmb, hla, hlb, hf, hok hnoise⟩
  | noiseEvaluates =>
    obtain ⟨hma, hmb, hla, hlb, _, hnoise⟩ := h
    obtain ⟨_, _, _, hdrive, hcoast⟩ := hnoise
    refine ⟨hma, hmb, hla, hlb, Nat.zero_le _, RevBuffer.ok_clear, RevBuffer.ok_clear, ?_, hdrive, hcoast⟩
    unfold State.beginEvaluation Analyzer.buffer
    dsimp only
    split <;> simp [RevBuffer.clear]
  | monitor c m _ _ hqueue => exact h.setMonitor c m hqueue
  | leak c a _ _ _ hqueue => exact h.setLeak c a hqueue
  | leakEvaluates c a _ _ _ hqueue =>
    exact (h.setLeak c a fun _ => by simp [hqueue]).congr rfl rfl rfl rfl
  | post c b kind =>
    refine QueueInv.clearAnalyzer (QueueInv.congr ?_ ?_ ?_ ?_ h) c <;> rfl
  | engineEnd c cause => exact h.engineEnd c cause
  | damage i f =>
    exact damage_kept (P := QueueInv) (fun _ _ _ h => h.congr rfl rfl rfl rfl) (fun _ c x h => h.engineEnd c x)
      (fun _ i h => h.recompute i) h i f
  | applyEnd item p rest e =>
    exact h.applyPosting item fun u hu => QueueInv.recompute (QueueInv.restChannel
      (hu.congr (by simp) (by simp) (by simp) (by simp)) _) _
  | applyLapse item p rest =>
    exact h.applyPosting item fun u hu => applyLapse_kept (P := QueueInv)
      (fun _ h => QueueInv.restChannel (h.congr (by simp) (by simp) (by simp) (by simp)) _)
      (fun _ i h => h.recompute i) (fun _ k n d h => h.congr (by simp) (by simp) (by simp) (by simp)) hu
  | forceRetire i f =>
    exact (freed_kept (P := QueueInv) (fun _ c x h => h.engineEnd c x) h i .forced).congr rfl rfl rfl rfl
  | start c b =>
    exact QueueInv.recompute (QueueInv.startAnalyzer (h.congr (by simp) (by simp) (by simp) (by simp)) c) _
  | settle => exact QueueInv.powerOn [] false
  | powerOn low => exact QueueInv.powerOn s.pending low
  | admitFile i serial v b => exact QueueInv.recompute (h.congr (s := s) (t := s.openFile i serial v b) rfl rfl rfl rfl) i
  | claim i f rs t c => exact QueueInv.recompute (h.congr (s := s) (t := s.bindChannel i f t c) rfl rfl rfl rfl) i
  | holds i f holds => exact QueueInv.recompute (h.congr (by simp) (by simp) (by simp) (by simp)) i
  | reopen i f rs t => exact QueueInv.recompute (h.congr (by simp) (by simp) (by simp) (by simp)) i
  | ports | settings | disturb | errors | release | bank | cursor | windows => exact h.congr rfl rfl rfl rfl

/-- Settles O59: every move keeps the queues and buffers in order. -/
theorem everyStepKeepsQueuesAndBuffersWithinTheirLimits :
    Obligations.EveryStepKeepsQueuesAndBuffersWithinTheirLimits :=
  fun _ _ h hstep => kept_by_step QueueInv.move (fun _ _ h => h) h hstep

/-! ### The recipe store (R26 to R43) -/

/-- The store is in order by the banks, the cursor and the windows alone. -/
theorem StoreInv.congr {s t : State} (hb : t.store.banks = s.store.banks) (hc : t.store.cursor = s.store.cursor)
    (hw : t.store.windows = s.store.windows) (h : StoreInv s) : StoreInv t := by
  unfold StoreInv State.bank
  rw [hb, hc, hw]
  exact h

/-- The store stays in order when a bank in order is written. -/
theorem StoreInv.setBank {s : State} (h : StoreInv s) (b : BankId) {k : Bank} (hk : k.ok) :
    StoreInv (s.setBank b k) := by
  obtain ⟨hbanks, hcursor, hwindows⟩ := h
  refine ⟨fun d => ?_, hcursor, hwindows⟩
  rw [State.bank_setBank]
  split
  · exact hk
  · exact hbanks d

/-- A retired file leaves the store in order: its bank has one user less (R147). -/
theorem StoreInv.retire {s : State} (h : StoreInv s) (i : SlotId) (f : FileRec) : StoreInv (s.retire i f) := by
  obtain ⟨hshape, husers, hempty, hready⟩ := h.1 f.bank
  refine StoreInv.congr (s := s.setBank f.bank { s.bank f.bank with users := (s.bank f.bank).users - 1 }) rfl rfl rfl
    (h.setBank f.bank ⟨hshape, fun hu => husers ?_, hempty, hready⟩)
  dsimp only at hu
  omega

/-- A posting applied keeps the store where its effect does (R54, R60). -/
theorem State.store_applyPosting (s : State) (item : CaptureItem) (p : Posting) {effect : State → State}
    (heffect : ∀ u, (effect u).store = u.store) : (s.applyPosting item p effect).store = s.store :=
  applyPosting_kept (P := fun u => u.store = s.store) (fun _ h => h) (fun _ _ h => by simpa using h)
    (fun _ _ _ h => by simpa using h) (fun u h => (heffect u).trans h) rfl item

/-- The store is in order at power-on (R170). -/
theorem StoreInv.powerOn (pending : List Instr) (low : Bool) : StoreInv (.powerOn pending low) := by
  refine ⟨fun b => ?_, nofun, ?_⟩
  · have hb : (State.powerOn pending low).bank b = .empty := by simp [State.powerOn, State.bank]
    rw [hb]
    exact ⟨Contents.shaped_zero, fun h => absurd rfl h, fun _ => rfl, nofun⟩
  · intro w hw
    have : w = ⟨false, 0, 0, 0⟩ := by simpa [State.powerOn] using hw
    simp [this]

/-- Every move keeps the store in order. -/
theorem StoreInv.move {s t : State} (hm : Move s t) (h : StoreInv s) : StoreInv t := by
  have heq {u : State} (hu : u.store = s.store) : StoreInv u := h.congr (by rw [hu]) (by rw [hu]) (by rw [hu])
  cases hm with
  | bank b k hok => exact h.setBank b (hok (h.1 b)).1
  | cursor cur hok => exact ⟨h.1, hok h, h.2.2⟩
  | windows w hok => exact ⟨h.1, h.2.1, hok h.2.2⟩
  | release i f => exact h.retire i f
  | forceRetire i f =>
    exact (freed_kept (P := StoreInv) (fun _ c x h => h.congr (by simp) (by simp) (by simp)) h i .forced).retire i f
  | admitFile i serial v b _ _ _ hready =>
    obtain ⟨hshape, husers, hempty, hvalid⟩ := h.1 b
    have hbank : StoreInv (s.setBank b { s.bank b with users := (s.bank b).users + 1 }) :=
      h.setBank b ⟨hshape, fun _ => hready, hempty, hvalid⟩
    refine StoreInv.congr (s := s.openFile i serial v b) (by simp) (by simp) (by simp) ?_
    exact hbank
  | settle => exact ⟨h.1, nofun, h.2.2⟩
  | powerOn low => exact StoreInv.powerOn s.pending low
  | applyEnd item p rest e => exact heq (s.store_applyPosting item p fun u => by simp [State.applyEnd])
  | applyLapse item p rest => exact heq (s.store_applyPosting item p fun u => by simp [State.applyLapse])
  | start c b => exact heq (by simp [State.startStage, (State.startAnalyzer_frame _ c).2.2.2.1])
  | settings => exact h.congr rfl rfl rfl
  | claim i f rs t c => exact heq ((State.recompute_store _ _).trans rfl)
  | ports | input | noise | noiseEvaluates  => exact heq rfl
  | _ => exact heq (by simp)

/-- Settles O55: every move keeps the store in order. -/
theorem everyStepKeepsTheRecipeStoreInOrder : Obligations.EveryStepKeepsTheRecipeStoreInOrder :=
  fun _ _ h hstep => kept_by_step StoreInv.move (fun _ _ h => h) h hstep

end Sys2Proof.Machine
end

section
/-! What every step keeps: the channels, their analyzers and the internal posting queue (R47, R57, R58). -/

namespace Sys2Proof.Machine

/-! ### The analyzer of a channel -/

/-- The analyzer of a channel, whichever it is. -/
inductive Work where
  | runin (m : Monitor)
  | noise (i : InputSection) (a : Analyzer)
  | leak (a : LeakAnalyzer)

/-- The analyzer of a channel in a state. -/
def State.work (s : State) : ChannelId → Work
  | .ra => .runin s.monitors.a
  | .rb => .runin s.monitors.b
  | .n => .noise s.input s.noise
  | .la => .leak s.leaks.a
  | .lb => .leak s.leaks.b

/-- The analyzer is cleared. -/
def Work.atRest : Work → Prop
  | .runin m => m = .cleared
  | .noise i a => i = .stopped ∧ a = .cleared
  | .leak a => a = .cleared

/-- The analyzer is in a phase of its own. -/
def Work.atWork : Work → Bool
  | .runin m => m.stepTimer.isSome
  | .noise _ a => a.phase.isSome
  | .leak a => a.phase.isSome

/-- The analyzer is in its evaluation. -/
def Work.evaluating : Work → Bool
  | .runin _ => false
  | .noise _ a => a.phase == some .evaluate
  | .leak a => a.phase == some .evaluate

/-- A leak analyzer's timers run in their phases. -/
def Work.timersOk : Work → Prop
  | .leak a => a.timersOk
  | _ => True

/-- The cleared analyzer of a channel. -/
def clearedWork : ChannelId → Work
  | .ra | .rb => .runin .cleared
  | .n => .noise .stopped .cleared
  | .la | .lb => .leak .cleared

/-- The analyzer of the state is at rest where the channel's analyzer is. -/
theorem State.atRest_iff (s : State) (c : ChannelId) : s.analyzerAtRest c ↔ (s.work c).atRest := by
  obtain ⟨_, _, _, _, _, _, _, ⟨_, _⟩, _, _, _, ⟨_, _⟩, _⟩ := s
  cases c <;>
    simp [State.analyzerAtRest, State.clearAnalyzer, State.setMonitor, State.setLeak, State.work, Work.atRest, eq_comm]

/-- The analyzer of the state is at work where the channel's analyzer is. -/
theorem State.atWork_eq (s : State) (c : ChannelId) : s.analyzerAtWork c = (s.work c).atWork := by
  cases c <;> rfl

/-- The analyzer of the state is in its evaluation where the channel's analyzer is. -/
theorem State.evaluating_eq (s : State) (c : ChannelId) : s.evaluating c = (s.work c).evaluating := by
  cases c <;> rfl

/-- The analyzers stay where monitors, input section, noise analyzer and leak analyzers stay. -/
theorem State.work_congr {s t : State} (hm : t.monitors = s.monitors) (hi : t.input = s.input) (hn : t.noise = s.noise)
    (hl : t.leaks = s.leaks) (c : ChannelId) : t.work c = s.work c := by
  cases c <;> simp only [State.work, hm, hi, hn, hl]

/-- The clearing of a channel's analyzer reaches no other. -/
theorem State.work_clearAnalyzer (s : State) (c d : ChannelId) :
    (s.clearAnalyzer c).work d = if c = d then clearedWork c else s.work d := by
  cases c <;> cases d <;> rfl

/-- A cleared analyzer is at rest. -/
theorem atRest_clearedWork (c : ChannelId) : (clearedWork c).atRest := by
  cases c <;> simp [clearedWork, Work.atRest]

/-- The timers of a cleared analyzer are in order. -/
theorem timersOk_clearedWork (c : ChannelId) : (clearedWork c).timersOk := by
  cases c <;> simp [clearedWork, Work.timersOk, LeakAnalyzer.timersOk, LeakAnalyzer.cleared]

/-- Writing a monitor reaches no other analyzer. -/
theorem State.work_setMonitor (s : State) (c : RunInCh) (m : Monitor) (d : ChannelId) :
    (s.setMonitor c m).work d = if c.id = d then .runin m else s.work d := by
  cases c <;> cases d <;> rfl

/-- Writing a leak analyzer reaches no other analyzer. -/
theorem State.work_setLeak (s : State) (c : LeakCh) (a : LeakAnalyzer) (d : ChannelId) :
    (s.setLeak c a).work d = if c.id = d then .leak a else s.work d := by
  cases c <;> cases d <;> rfl

/-- Another input section reaches the noise channel's analyzer alone. -/
theorem State.work_withInput (s : State) (i : InputSection) (d : ChannelId) :
    (s.withInput i).work d = if d = .n then .noise i s.noise else s.work d := by
  cases d <;> rfl

/-- Another noise analyzer reaches the noise channel's analyzer alone. -/
theorem State.work_withNoise (s : State) (a : Analyzer) (d : ChannelId) :
    (s.withNoise a).work d = if d = .n then .noise s.input a else s.work d := by
  cases d <;> rfl

/-- The noise evaluation begins on the noise channel alone. -/
theorem State.evaluation_other (s : State) {d : ChannelId} (h : d ≠ .n) :
    s.beginEvaluation.chan d = s.chan d ∧ s.beginEvaluation.work d = s.work d := by
  cases d
  case n => exact absurd rfl h
  all_goals exact ⟨rfl, rfl⟩

/-- The start of a channel's analyzer reaches no other. -/
theorem State.work_startAnalyzer_other (s : State) {c d : ChannelId} (h : d ≠ c) :
    (s.startAnalyzer c).work d = s.work d := by
  have hone : (s.startAnalyzer c).work d = if d = c then (s.startAnalyzer c).work c else s.work d := by
    cases c <;> cases d <;> rfl
  rw [hone, if_neg h]

/-- A started analyzer is at work, not in its evaluation, its timers in order (R72, R106, R129). -/
theorem State.work_startAnalyzer (s : State) (c : ChannelId) :
    ((s.startAnalyzer c).work c).atWork = true ∧ ((s.startAnalyzer c).work c).evaluating = false ∧
      ((s.startAnalyzer c).work c).timersOk := by
  have hleak (f : LeakFields) : (LeakAnalyzer.started f).timersOk := by
    simp [LeakAnalyzer.timersOk, LeakAnalyzer.started, LeakAnalyzer.cleared]
  have hnoise (f : NoiseFields) : (Work.noise .started (.started f)).evaluating = false := by
    unfold Work.evaluating Analyzer.started
    dsimp only
    split <;> rfl
  cases c
  case ra | rb => exact ⟨rfl, rfl, trivial⟩
  case n => exact ⟨rfl, hnoise _, trivial⟩
  case la | lb => exact ⟨rfl, rfl, hleak _⟩

/-! ### A channel with its analyzer -/

/-- A channel with its analyzer is in order (Table 3-2). -/
structure Channel.inOrder (ch : Channel) (w : Work) (c : ChannelId) : Prop where
  idle : ch.state = .idle → ch = .rest
  bound : ch.state ≠ .idle → ch.binding.map (·.stage) = some c.stage
  unclaimed : ch.state ≠ .claimed → ch.claimTimer = none
  stopped : ch.state ≠ .running → ch.stageTimer = none ∧ w.atRest
  running : ch.state = .running → w.atWork = true ∧ ch.stageTimer.isSome = !w.evaluating
  timers : w.timersOk

/-- A free channel with a cleared analyzer is in order. -/
theorem Channel.inOrder_rest (c : ChannelId) : Channel.inOrder .rest (clearedWork c) c where
  idle _ := rfl
  bound h := absurd rfl h
  unclaimed _ := rfl
  stopped _ := ⟨rfl, atRest_clearedWork c⟩
  running := nofun
  timers := timersOk_clearedWork c

/-- A channel is bound to its own kind of stage. -/
theorem Channel.inOrder.stage_eq {ch : Channel} {w : Work} {c : ChannelId} (h : ch.inOrder w c) {b : Binding}
    (hb : ch.binding = some b) : b.stage = c.stage := by
  have hidle : ch.state ≠ .idle := fun hidle => by rw [h.idle hidle] at hb; cases hb
  simpa [hb] using h.bound hidle

/-- The channels are in order with the postings of a list, those of the queue or one more. -/
structure State.ChannelsOk (s : State) (ps : List Posting) : Prop where
  channel : ∀ c : ChannelId, (s.chan c).inOrder (s.work c) c
  once : (ps.map (·.channel)).Nodup
  ending : ∀ p ∈ ps, s.chan p.channel = ⟨.ending, some ⟨p.handle, p.stage⟩, none, none⟩ ∧ p.ok = true
  posted : ∀ c : ChannelId, (s.chan c).state = .ending → c ∈ ps.map (·.channel)

/-- The standing condition of the channels is theirs with the postings of the queue. -/
theorem channelInv_iff (s : State) : ChannelInv s ↔ s.ChannelsOk s.arbiter.postings := by
  constructor
  · rintro ⟨hchannel, hla, hlb, honce, hending, hposted⟩
    refine ⟨fun c => ?_, honce, hending, fun c => hposted c (mem_allChannels c)⟩
    obtain ⟨hidle, hbound, hclaim, hstop, hrun⟩ := hchannel c (mem_allChannels c)
    rw [s.atRest_iff] at hstop
    rw [s.atWork_eq, s.evaluating_eq] at hrun
    refine ⟨hidle, hbound, hclaim, hstop, hrun, ?_⟩
    cases c
    case la => exact hla
    case lb => exact hlb
    all_goals trivial
  · intro h
    refine ⟨fun c _ => ?_, (h.channel .la).timers, (h.channel .lb).timers, h.once, h.ending, fun c _ => h.posted c⟩
    unfold State.channelOk
    rw [s.atRest_iff, s.atWork_eq, s.evaluating_eq]
    exact ⟨(h.channel c).idle, (h.channel c).bound, (h.channel c).unclaimed, (h.channel c).stopped,
      (h.channel c).running⟩

/-! ### What keeps the channels in order -/

namespace State.ChannelsOk

variable {s t : State} {ps : List Posting}

/-- The channels are in order by channels and analyzers alone. -/
theorem congr (h : s.ChannelsOk ps) (hc : t.chans = s.chans) (hm : t.monitors = s.monitors) (hi : t.input = s.input)
    (hn : t.noise = s.noise) (hl : t.leaks = s.leaks) : t.ChannelsOk ps := by
  have hchan (c) : t.chan c = s.chan c := State.chan_congr hc c
  have hwork (c) : t.work c = s.work c := State.work_congr hm hi hn hl c
  exact ⟨fun c => by rw [hchan, hwork]; exact h.channel c, h.once, fun p hp => by rw [hchan]; exact h.ending p hp,
    fun c => by rw [hchan]; exact h.posted c⟩

/-- A posting's channel is not another one: a channel not ENDING has no posting. -/
theorem channel_ne (h : s.ChannelsOk ps) {c : ChannelId} (hc : (s.chan c).state ≠ .ending) {p : Posting} (hp : p ∈ ps) :
    p.channel ≠ c := by
  rintro rfl
  rw [(h.ending p hp).1] at hc
  exact hc rfl

/-- The channels stay in order when one not ENDING, with its analyzer, becomes another in order and not ENDING. -/
theorem change (h : s.ChannelsOk ps) (c : ChannelId) (hother : ∀ d, d ≠ c → t.chan d = s.chan d ∧ t.work d = s.work d)
    (hc : (t.chan c).inOrder (t.work c) c) (hbefore : (s.chan c).state ≠ .ending) (hafter : (t.chan c).state ≠ .ending) :
    t.ChannelsOk ps where
  channel d := by
    by_cases hd : d = c
    · subst hd; exact hc
    · obtain ⟨hchan, hwork⟩ := hother d hd
      rw [hchan, hwork]
      exact h.channel d
  once := h.once
  ending p hp := by
    rw [(hother _ (h.channel_ne hbefore hp)).1]
    exact h.ending p hp
  posted d hd := by
    have hne : d ≠ c := fun hdc => hafter (hdc ▸ hd)
    rw [(hother d hne).1] at hd
    exact h.posted d hd

/-- The channels stay in order when a channel is freed and its postings are dropped (R60, R62). -/
theorem rest (h : s.ChannelsOk ps) (c : ChannelId) : (s.restChannel c).ChannelsOk (ps.filter fun p => p.channel != c) where
  channel d := by
    have hwork : (s.restChannel c).work d = if c = d then clearedWork c else s.work d :=
      (State.work_clearAnalyzer _ c d).trans (if_congr Iff.rfl rfl (State.work_congr rfl rfl rfl rfl d))
    rw [State.chan_restChannel, hwork]
    split
    · next hd => subst hd; exact Channel.inOrder_rest c
    · exact h.channel d
  once := h.once.sublist (List.filter_sublist.map _)
  ending p hp := by
    obtain ⟨hp, hne⟩ := List.mem_filter.mp hp
    rw [State.chan_restChannel, if_neg (bne_iff_ne.mp hne).symm]
    exact h.ending p hp
  posted d hd := by
    rw [State.chan_restChannel] at hd
    split at hd
    · cases hd
    · next hne =>
      obtain ⟨p, hp, rfl⟩ := List.mem_map.mp (h.posted d hd)
      exact List.mem_map.mpr ⟨p, List.mem_filter.mpr ⟨hp, bne_iff_ne.mpr (Ne.symm hne)⟩, rfl⟩

/-- A recomputation keeps the channels in order (R146). -/
theorem recompute (h : s.ChannelsOk ps) (i : SlotId) : (s.recompute i).ChannelsOk ps :=
  h.congr (by simp) (by simp) (by simp) (by simp) (by simp)

/-- An engine-side end of a channel drops its postings and keeps the channels in order (R62). -/
theorem engineEnd (h : s.ChannelsOk ps) (c : ChannelId) (cause : Cause) {b : Binding}
    (hb : (s.chan c).binding = some b) : (s.engineEnd c cause).ChannelsOk (ps.filter fun p => p.channel != c) := by
  have hstage (g) : ((s.dropPosting c).modStage b.handle b.stage g).ChannelsOk ps :=
    h.congr (by simp) (by simp) (by simp) (by simp) (by simp)
  have hdirect {u : State} {qs} (hu : u.ChannelsOk qs) : (u.directEnd c b .cutShort cause).ChannelsOk qs :=
    hu.congr (by simp) (by simp) (by simp) (by simp) (by simp)
  unfold State.engineEnd
  rw [hb]
  exact (hdirect ((hstage _).rest c)).recompute _

/-- A posting of a CLAIMED or RUNNING channel keeps the channels in order (R53, R57). -/
theorem post (h : s.ChannelsOk ps) (c : ChannelId) (b : Binding) (kind : PostingKind)
    (hb : (s.chan c).binding = some b) (hstate : (s.chan c).state ≠ .ending)
    (hok : Posting.ok ⟨c, b.handle, b.stage, kind⟩ = true) :
    (s.post c b kind).ChannelsOk (ps ++ [⟨c, b.handle, b.stage, kind⟩]) := by
  have hchan (d) : (s.post c b kind).chan d = if c = d then ⟨.ending, some b, none, none⟩ else s.chan d := by
    unfold State.post
    rw [State.chan_congr (State.clearAnalyzer_chans _ _), State.chan_setChan]
    rfl
  have hwork (d) : (s.post c b kind).work d = if c = d then clearedWork c else s.work d :=
    (State.work_clearAnalyzer _ c d).trans (if_congr Iff.rfl rfl (State.work_congr rfl rfl rfl rfl d))
  refine ⟨fun d => ?_, ?_, fun p hp => ?_, fun d hd => ?_⟩
  · rw [hchan, hwork]
    split
    · next hd =>
      subst hd
      exact ⟨nofun, fun _ => congrArg some ((h.channel c).stage_eq hb), fun _ => rfl,
        fun _ => ⟨rfl, atRest_clearedWork c⟩, nofun, timersOk_clearedWork c⟩
    · exact h.channel d
  · rw [List.map_append, List.map_singleton, List.nodup_append]
    refine ⟨h.once, List.nodup_singleton c, fun d hd e he => ?_⟩
    obtain ⟨p, hp, rfl⟩ := List.mem_map.mp hd
    rw [List.mem_singleton.mp he]
    exact h.channel_ne hstate hp
  · rcases List.mem_append.mp hp with hp | hp
    · rw [hchan, if_neg (h.channel_ne hstate hp).symm]
      exact h.ending p hp
    · rw [List.mem_singleton.mp hp]
      exact ⟨by rw [hchan, if_pos rfl], hok⟩
  · rw [hchan] at hd
    rw [List.map_append, List.mem_append]
    split at hd
    · next hcd => exact .inr (by simp [hcd])
    · exact .inl (h.posted d hd)

/-- The claim of a stage for an IDLE channel of its kind keeps the channels in order (R50). -/
theorem bindChannel (h : s.ChannelsOk ps) (i : SlotId) (f : FileRec) {t : Stage} {c : ChannelId} (hstage : c.stage = t)
    (hidle : (s.chan c).state = .idle) : (s.bindChannel i f t c).ChannelsOk ps := by
  have hchan (d) : (s.bindChannel i f t c).chan d = if c = d then
      ⟨.claimed, some ⟨s.handleOf i, t⟩, claimLimitMs (s.bank f.bank).contents.claimCode, none⟩ else s.chan d := by
    unfold State.bindChannel
    rw [State.chan_setChan]
    rfl
  have hwork (d) : (s.bindChannel i f t c).work d = s.work d := State.work_congr rfl rfl rfl rfl d
  refine h.change c (fun d hd => ⟨by rw [hchan, if_neg hd.symm], hwork d⟩) ?_ (by simp [hidle]) (by simp [hchan])
  rw [hchan, if_pos rfl, hwork]
  have hrest := (h.channel c).stopped (by simp [hidle])
  exact ⟨nofun, fun _ => by simp [hstage], fun hne => absurd rfl hne, fun _ => ⟨rfl, hrest.2⟩, nofun,
    (h.channel c).timers⟩

/-- The start of a claimed stage keeps the channels in order (R55). -/
theorem startStage (h : s.ChannelsOk ps) {c : ChannelId} {b : Binding} (hb : (s.chan c).binding = some b)
    (hclaimed : (s.chan c).state = .claimed) : (s.startStage c b).ChannelsOk ps := by
  unfold State.startStage
  refine recompute ?_ _
  set u := (s.setChan c ⟨.running, some b, none, some ((s.bankOf c).contents.stageLimitMs b.stage)⟩).modStage b.handle
    b.stage StageRecord.start with hu
  have hchan (d) : (u.startAnalyzer c).chan d = if c = d then
      ⟨.running, some b, none, some ((s.bankOf c).contents.stageLimitMs b.stage)⟩ else s.chan d := by
    rw [State.chan_congr (State.startAnalyzer_frame u c).2.1, hu, State.chan_congr (State.modStage_chans _ _ _ _),
      State.chan_setChan]
  have hwork (d) : u.work d = s.work d := State.work_congr (by simp [hu]) (by simp [hu]) (by simp [hu]) (by simp [hu]) d
  obtain ⟨hatWork, hevaluating, htimers⟩ := State.work_startAnalyzer u c
  refine h.change c (fun d hd => ⟨by rw [hchan, if_neg hd.symm], ?_⟩) ?_ (by simp [hclaimed]) (by simp [hchan])
  · rw [State.work_startAnalyzer_other u hd, hwork]
  · rw [hchan, if_pos rfl]
    exact ⟨nofun, fun _ => congrArg some ((h.channel c).stage_eq hb), fun _ => rfl, fun hne => absurd rfl hne,
      fun _ => ⟨hatWork, by simp [hevaluating]⟩, htimers⟩

/-- A RUNNING channel's analyzer may move on while it stays at work, its evaluation neither begun nor left. -/
theorem setWork (h : s.ChannelsOk ps) {c : ChannelId} (hchans : t.chans = s.chans)
    (hother : ∀ d, d ≠ c → t.work d = s.work d) (hrunning : (s.chan c).state = .running)
    (hatWork : (s.work c).atWork = true → (t.work c).atWork = true)
    (htimers : (s.work c).timersOk → (t.work c).timersOk ∧ (t.work c).evaluating = (s.work c).evaluating) :
    t.ChannelsOk ps := by
  have hchan (d) : t.chan d = s.chan d := State.chan_congr hchans d
  obtain ⟨htimersOk, hevaluating⟩ := htimers (h.channel c).timers
  refine h.change c (fun d hd => ⟨hchan d, hother d hd⟩) ?_ (by simp [hrunning]) (by simp [hchan, hrunning])
  obtain ⟨hwork, htimer⟩ := (h.channel c).running hrunning
  rw [hchan]
  exact ⟨(h.channel c).idle, (h.channel c).bound, (h.channel c).unclaimed, fun hne => absurd hrunning hne,
    fun _ => ⟨hatWork hwork, hevaluating ▸ htimer⟩, htimersOk⟩

/-- A RUNNING channel's analyzer may begin its evaluation, which stops the stage timer (R56). -/
theorem evaluate (h : s.ChannelsOk ps) {c : ChannelId} (hother : ∀ d, d ≠ c → t.chan d = s.chan d ∧ t.work d = s.work d)
    (hc : t.chan c = { s.chan c with stageTimer := none }) (hrunning : (s.chan c).state = .running)
    (hatWork : (t.work c).atWork = true) (hevaluating : (t.work c).evaluating = true) (htimers : (t.work c).timersOk) :
    t.ChannelsOk ps := by
  refine h.change c hother ?_ (by simp [hrunning]) (by simp [hc, hrunning])
  rw [hc]
  exact ⟨fun hidle => absurd (hrunning.symm.trans hidle) (by decide), (h.channel c).bound, (h.channel c).unclaimed,
    fun hne => absurd hrunning hne, fun _ => ⟨hatWork, by simp [hevaluating]⟩, htimers⟩

/-- Every channel free and every analyzer cleared is in order with no posting. -/
theorem all_at_rest (hchans : t.chans = ⟨.rest, .rest, .rest, .rest, .rest⟩) (hm : t.monitors = ⟨.cleared, .cleared⟩)
    (hi : t.input = .stopped) (hn : t.noise = .cleared) (hl : t.leaks = ⟨.cleared, .cleared⟩) : t.ChannelsOk [] := by
  have hchan (c) : t.chan c = .rest := by unfold State.chan; rw [hchans]; cases c <;> rfl
  have hwork (c) : t.work c = clearedWork c := by
    cases c <;> simp only [State.work, hm, hi, hn, hl] <;> rfl
  refine ⟨fun c => ?_, List.nodup_nil, fun p hp => absurd hp List.not_mem_nil, fun c hc => ?_⟩
  · rw [hchan, hwork]
    exact Channel.inOrder_rest c
  · rw [hchan] at hc
    cases hc

end State.ChannelsOk

/-! ### The posting being applied -/

/-- A posting has left the queue: the channels are in order with it still counted, or, where its channel has been freed
since, without it. -/
structure State.InFlight (s : State) (p : Posting) : Prop where
  alone : p.channel ∉ s.arbiter.postings.map (·.channel)
  ok : s.ChannelsOk s.arbiter.postings ∨ s.ChannelsOk (p :: s.arbiter.postings)

namespace State.InFlight

variable {s t : State} {p : Posting}

/-- The posting in flight stays where channels, analyzers and queue stay. -/
theorem congr (h : s.InFlight p) (hp : t.arbiter.postings = s.arbiter.postings) (hc : t.chans = s.chans)
    (hm : t.monitors = s.monitors) (hi : t.input = s.input) (hn : t.noise = s.noise) (hl : t.leaks = s.leaks) :
    t.InFlight p := by
  obtain ⟨halone, hok⟩ := h
  refine ⟨hp ▸ halone, ?_⟩
  rw [hp]
  exact hok.imp (·.congr hc hm hi hn hl) (·.congr hc hm hi hn hl)

/-- An engine-side end keeps the posting in flight, or takes it out with its channel (R62). -/
theorem engineEnd (h : s.InFlight p) (c : ChannelId) (cause : Cause) : (s.engineEnd c cause).InFlight p := by
  rcases hb : (s.chan c).binding with _ | b
  · have hnone : s.engineEnd c cause = s := by unfold State.engineEnd; rw [hb]
    exact hnone.symm ▸ h
  · obtain ⟨halone, hok⟩ := h
    refine ⟨?_, ?_⟩ <;> rw [State.postings_engineEnd s c cause b hb]
    · exact fun hmem => halone ((List.filter_sublist.map _).subset hmem)
    · rcases hok with hok | hok
      · exact .inl (hok.engineEnd c cause hb)
      · have hends := hok.engineEnd c cause hb
        by_cases hpc : p.channel = c
        · exact .inl (by simpa [List.filter_cons, hpc] using hends)
        · exact .inr (by simpa [List.filter_cons, hpc] using hends)

/-- The read of the posting's file keeps the posting in flight, or takes it out with its channel (R60). -/
theorem readFile (h : s.InFlight p) (item : CaptureItem) (i : SlotId) : (s.readFile item i).InFlight p :=
  readFile_kept (P := (·.InFlight p))
    (fun _ _ _ _ h => h.congr (by simp) (by simp) (by simp) (by simp) (by simp) (by simp))
    (fun _ _ _ _ h => h.congr rfl rfl rfl rfl rfl rfl)
    (fun _ i f _ h => damage_kept (P := (·.InFlight p)) (fun _ _ _ h => h.congr rfl rfl rfl rfl rfl rfl)
      (fun _ c x h => h.engineEnd c x)
      (fun _ _ h => h.congr (by simp) (by simp) (by simp) (by simp) (by simp) (by simp)) h i f) h item i

/-- While its channel is ENDING, the posting in flight counts. -/
theorem counts (h : s.InFlight p) (hending : (s.chan p.channel).state = .ending) :
    s.ChannelsOk (p :: s.arbiter.postings) :=
  h.ok.resolve_left fun hok => h.alone (hok.posted _ hending)

/-- Where its channel is no longer ENDING, the channels are in order with the queue. -/
theorem gone (h : s.InFlight p) (hending : (s.chan p.channel).state ≠ .ending) : s.ChannelsOk s.arbiter.postings :=
  h.ok.resolve_right fun hok => hok.channel_ne hending (List.mem_cons_self) rfl

/-- The channel of the posting in flight freed leaves the channels in order with the queue. -/
theorem restChannel (h : s.InFlight p) (hending : (s.chan p.channel).state = .ending) :
    (s.restChannel p.channel).ChannelsOk s.arbiter.postings := by
  have hrest := (h.counts hending).rest p.channel
  have hothers : (p :: s.arbiter.postings).filter (fun q => q.channel != p.channel) = s.arbiter.postings := by
    rw [List.filter_cons_of_neg (by simp), List.filter_eq_self]
    exact fun q hq => bne_iff_ne.mpr fun hqp => h.alone (hqp ▸ List.mem_map_of_mem hq)
  rwa [hothers] at hrest

end State.InFlight

/-- The posting at the front of the queue is in flight once it has left the queue. -/
theorem State.inFlight_popPosting {s : State} {p : Posting} {rest : List Posting} (h : ChannelInv s)
    (hp : s.arbiter.postings = p :: rest) : s.popPosting.InFlight p := by
  have htail : s.popPosting.arbiter.postings = rest := by simp [State.popPosting, hp]
  have hok := (channelInv_iff s).mp h
  rw [hp] at hok
  refine ⟨?_, .inr ?_⟩ <;> rw [htail]
  · exact (List.nodup_cons.mp hok.once).1
  · exact hok.congr rfl rfl rfl rfl rfl

/-! ### Every move keeps the channels in order -/

/-- The channels are in order by channels, analyzers and the queue of postings alone. -/
theorem ChannelInv.congr {s t : State} (h : ChannelInv s) (hp : t.arbiter.postings = s.arbiter.postings)
    (hc : t.chans = s.chans) (hm : t.monitors = s.monitors) (hi : t.input = s.input) (hn : t.noise = s.noise)
    (hl : t.leaks = s.leaks) : ChannelInv t := by
  rw [channelInv_iff] at h ⊢
  rw [hp]
  exact h.congr hc hm hi hn hl

/-- A recomputation keeps the channels in order (R146). -/
theorem ChannelInv.recompute {s : State} (h : ChannelInv s) (i : SlotId) : ChannelInv (s.recompute i) :=
  h.congr (by simp) (by simp) (by simp) (by simp) (by simp) (by simp)

/-- An engine-side end keeps the channels in order (R62). -/
theorem ChannelInv.engineEnd {s : State} (h : ChannelInv s) (c : ChannelId) (cause : Cause) :
    ChannelInv (s.engineEnd c cause) := by
  rcases hb : (s.chan c).binding with _ | b
  · have hnone : s.engineEnd c cause = s := by unfold State.engineEnd; rw [hb]
    exact hnone.symm ▸ h
  · rw [channelInv_iff, State.postings_engineEnd s c cause b hb]
    exact ((channelInv_iff s).mp h).engineEnd c cause hb

/-- The damage of a file keeps the channels in order (R180). -/
theorem ChannelInv.damage {s : State} (h : ChannelInv s) (i : SlotId) (f : FileRec) : ChannelInv (s.damage i f) :=
  damage_kept (P := ChannelInv) (fun _ _ _ h => h.congr rfl rfl rfl rfl rfl rfl) (fun _ c x h => h.engineEnd c x)
    (fun _ i h => h.recompute i) h i f

/-- The application of the posting at the front keeps the channels in order where its effect on a channel still ENDING
leaves them in order (R54, R60, R61). -/
theorem ChannelInv.applyPosting {s : State} (h : ChannelInv s) (item : CaptureItem) {p : Posting} {rest : List Posting}
    (hp : s.arbiter.postings = p :: rest) {effect : State → State}
    (heffect : ∀ u, u.InFlight p → (u.chan p.channel).state = .ending → ChannelInv (effect u)) :
    ChannelInv (s.applyPosting item p effect) := by
  have hpopped := State.inFlight_popPosting h hp
  unfold State.applyPosting
  dsimp only
  split
  · have hending := ((hpopped.ok.resolve_left fun hok => ?_).ending p List.mem_cons_self).1
    · unfold State.discardPosting
      rw [hending, if_pos ⟨rfl, rfl⟩, channelInv_iff, State.restChannel_arbiter]
      exact hpopped.restChannel (by rw [hending])
    · have hfront : s.chan p.channel = ⟨.ending, some ⟨p.handle, p.stage⟩, none, none⟩ :=
        (((channelInv_iff s).mp h).ending p (by rw [hp]; exact List.mem_cons_self)).1
      exact hpopped.alone (hok.posted p.channel (congrArg Channel.state hfront))
  · have hread := hpopped.readFile item p.handle.slot
    split
    · next hending => exact heffect _ hread hending
    · next hending => exact (channelInv_iff _).mpr (hread.gone hending)

/-- A posting's stage changed and its channel freed leave the channels in order (R54, R60). -/
theorem ChannelInv.of_effect {u : State} {p : Posting} (h : u.InFlight p) (hending : (u.chan p.channel).state = .ending)
    (g : StageRecord → StageRecord) : ChannelInv ((u.modStage p.handle p.stage g).restChannel p.channel) := by
  have hstage : (u.modStage p.handle p.stage g).InFlight p :=
    h.congr (by simp) (by simp) (by simp) (by simp) (by simp) (by simp)
  rw [channelInv_iff, State.restChannel_arbiter]
  exact hstage.restChannel (by rw [State.chan_congr (State.modStage_chans _ _ _ _)]; exact hending)

/-- The channels are in order at power-on (R170). -/
theorem ChannelInv.powerOn (pending : List Instr) (low : Bool) : ChannelInv (.powerOn pending low) :=
  (channelInv_iff _).mpr (State.ChannelsOk.all_at_rest rfl rfl rfl rfl rfl)

/-- Every move keeps the channels and postings in order. -/
theorem ChannelInv.move {s t : State} (hm : Move s t) (h : ChannelInv s) : ChannelInv t := by
  have hok := (channelInv_iff s).mp h
  cases hm with
  | damage i f => exact h.damage i f
  | engineEnd c cause => exact h.engineEnd c cause
  | post c b kind hb hstate hlapse hended =>
    have hposting : Posting.ok ⟨c, b.handle, b.stage, kind⟩ = true := by
      cases kind with
      | lapse => rfl
      | ended e => exact (hok.channel c).stage_eq hb ▸ hended e rfl
    have hpost := hok.post c b kind hb (by rcases hstate with h | h <;> simp [h]) hposting
    refine (channelInv_iff _).mpr ?_
    rwa [show (s.post c b kind).arbiter.postings = s.arbiter.postings ++ [⟨c, b.handle, b.stage, kind⟩] from
      congrArg Arbiter.postings (State.clearAnalyzer_arbiter _ c)]
  | applyEnd item p rest e hp =>
    exact h.applyPosting item hp fun u hu hending => (ChannelInv.of_effect hu hending _).recompute _
  | applyLapse item p rest hp =>
    refine h.applyPosting item hp fun u hu hending => ?_
    exact ((ChannelInv.of_effect hu hending StageRecord.lapse).recompute p.handle.slot).congr
      (by simp [State.applyLapse]) (by simp [State.applyLapse]) (by simp [State.applyLapse])
      (by simp [State.applyLapse]) (by simp [State.applyLapse]) (by simp [State.applyLapse])
  | forceRetire i f =>
    exact (freed_kept (P := ChannelInv) (fun _ c x h => h.engineEnd c x) h i .forced).congr rfl rfl rfl rfl rfl rfl
  | admitFile i serial v b =>
    exact (h.congr (s := s) (t := s.openFile i serial v b) rfl rfl rfl rfl rfl rfl).recompute i
  | claim i f rs t c hf hrs hopen hother hstage hidle =>
    refine ((channelInv_iff (s.bindChannel i f t c)).mpr ?_).recompute i
    exact hok.bindChannel i f hstage hidle
  | start c b hb hclaimed =>
    refine (channelInv_iff _).mpr ?_
    have hpostings : (s.startStage c b).arbiter.postings = s.arbiter.postings := by
      unfold State.startStage
      simp [(State.startAnalyzer_frame _ c).2.2.1]
    rw [hpostings]
    exact hok.startStage hb hclaimed
  | input i hrest =>
    refine (channelInv_iff _).mpr ?_
    rcases hrest with hrunning | hstopped
    · exact hok.setWork (c := .n) rfl (fun d hd => by rw [State.work_withInput, if_neg hd]) hrunning id
        fun htimers => ⟨htimers, rfl⟩
    · refine ⟨fun d => ?_, hok.once, hok.ending, hok.posted⟩
      have hd := hok.channel d
      cases d
      case n =>
        exact ⟨hd.idle, hd.bound, hd.unclaimed, fun hne => ⟨(hd.stopped hne).1, hstopped (hd.stopped hne).2.1,
          (hd.stopped hne).2.2⟩, hd.running, trivial⟩
      all_goals exact hd
  | noise a hrunning hphase hevaluate =>
    refine (channelInv_iff _).mpr (hok.setWork (c := .n) rfl (fun d hd => by rw [State.work_withNoise, if_neg hd])
      hrunning hphase fun _ => ⟨trivial, ?_⟩)
    exact Bool.eq_iff_iff.mpr (by simpa [State.work, Work.evaluating, State.withNoise] using hevaluate)
  | noiseEvaluates hrunning =>
    exact (channelInv_iff _).mpr (hok.evaluate (c := .n) (fun d hd => s.evaluation_other hd) rfl hrunning rfl rfl trivial)
  | monitor c m hrunning htimer =>
    refine (channelInv_iff _).mpr ?_
    rw [State.setMonitor_arbiter]
    refine hok.setWork (c := c.id) (by simp) (fun d hd => by rw [State.work_setMonitor, if_neg hd.symm]) hrunning ?_ ?_ <;>
      rw [State.work_setMonitor, if_pos rfl] <;> cases c
    · exact htimer
    · exact htimer
    · exact fun _ => ⟨trivial, rfl⟩
    · exact fun _ => ⟨trivial, rfl⟩
  | leak c a hrunning hphase htimers =>
    refine (channelInv_iff _).mpr ?_
    rw [State.setLeak_arbiter]
    have hwork : s.work c.id = .leak (s.leak c) := by cases c <;> rfl
    refine hok.setWork (c := c.id) (by simp) (fun d hd => by rw [State.work_setLeak, if_neg hd.symm]) hrunning ?_ ?_ <;>
      rw [State.work_setLeak, if_pos rfl, hwork]
    · exact hphase
    · refine fun h => ⟨(htimers h).1, Bool.eq_iff_iff.mpr ?_⟩
      simpa [Work.evaluating] using (htimers h).2
  | leakEvaluates c a hrunning hphase htimers =>
    have hwork (d) : ((s.setLeak c a).setChan c.id { s.chan c.id with stageTimer := none }).work d =
        if c.id = d then .leak a else s.work d :=
      (State.work_congr rfl rfl rfl rfl d).trans (State.work_setLeak s c a d)
    have hchan (d) : ((s.setLeak c a).setChan c.id { s.chan c.id with stageTimer := none }).chan d =
        if c.id = d then { s.chan c.id with stageTimer := none } else s.chan d := by
      rw [State.chan_setChan, State.chan_setLeak]
    have hbefore : s.work c.id = .leak (s.leak c) := by cases c <;> rfl
    refine (channelInv_iff _).mpr ?_
    rw [State.setChan_arbiter, State.setLeak_arbiter]
    refine hok.evaluate (c := c.id) (fun d hd => ⟨by rw [hchan, if_neg hd.symm], by rw [hwork, if_neg hd.symm]⟩)
      (by rw [hchan, if_pos rfl]) hrunning ?_ ?_ ?_ <;> rw [hwork, if_pos rfl]
    · simp [Work.atWork, hphase]
    · simp [Work.evaluating, hphase]
    · have := (hok.channel c.id).timers
      rw [hbefore] at this
      exact htimers this
  | settle => exact (channelInv_iff _).mpr (State.ChannelsOk.all_at_rest rfl rfl rfl rfl rfl)
  | powerOn low => exact ChannelInv.powerOn s.pending low
  | holds | reopen => exact ChannelInv.recompute (h.congr (t := s.setFile _ _) rfl rfl rfl rfl rfl rfl) _
  | ports | settings | disturb | errors | release | bank | cursor | windows => exact h.congr rfl rfl rfl rfl rfl rfl

/-- Settles O53: every move keeps the channels and postings in order. -/
theorem everyStepKeepsChannelsAndPostingsInOrder : Obligations.EveryStepKeepsChannelsAndPostingsInOrder :=
  fun _ _ h hstep => kept_by_step ChannelInv.move (fun _ _ h => h.congr rfl rfl rfl rfl rfl rfl) h hstep

end Sys2Proof.Machine
end

section
/-! What every step keeps: the claims, bindings and stage records naming each other (R7, R47). -/

namespace Sys2Proof.Machine

/-! ### The files after the shared operations -/

/-- A file with the verdict of its fields stored (R6, R145). -/
def FileRec.judged (f : FileRec) : FileRec := { f with verdict := f.verdictNow }

/-- The stage records of a slot's live file; none for a free slot and for a damaged file (R5). -/
def State.records (s : State) (i : SlotId) : Option StageRecords := (s.file i).bind (·.records)

/-- One stage record replaced, the other two stay. -/
@[simp] theorem StageRecords.get_set (rs : StageRecords) (t u : Stage) (r : StageRecord) :
    (rs.set t r).get u = if t = u then r else rs.get u := by
  cases t <;> cases u <;> rfl

/-- A stage record changed writes the file of a current handle alone (R2). -/
theorem State.file_modStage (s : State) (h : Handle) (t : Stage) (g : StageRecord → StageRecord) (j : SlotId) :
    (s.modStage h t g).file j =
      if h.slot = j ∧ s.handleOf j = h then (s.file j).map (·.modStage t g) else s.file j := by
  have hcurrent : h.slot = j ∧ s.handleOf j = h ↔ h.slot = j ∧ (s.slot j).gen = h.gen := by
    constructor
    · rintro ⟨hj, rfl⟩; exact ⟨hj, rfl⟩
    · rintro ⟨rfl, hgen⟩; exact ⟨rfl, by rw [State.handleOf, hgen]⟩
  rw [if_congr hcurrent rfl rfl]
  unfold State.modStage
  split
  · next f hf =>
    obtain ⟨hgen, hfile⟩ := State.fileAt_eq.mp hf
    rw [State.file_setFile]
    by_cases hj : h.slot = j
    · subst hj; simp [hgen, hfile]
    · simp [hj]
  · next hf =>
    split
    · next hj =>
      obtain ⟨rfl, hgen⟩ := hj
      rw [State.fileAt, if_pos hgen] at hf
      rw [hf]; rfl
    · rfl

/-- A recomputation stores the verdict of its file (R146). -/
theorem State.file_recompute_judged (s : State) (i j : SlotId) :
    (s.recompute i).file j = if i = j then (s.file j).map FileRec.judged else s.file j :=
  State.file_recompute s i j

/-- An engine-side end writes the file its channel is bound to (R62). -/
theorem State.file_engineEnd (s : State) (c : ChannelId) (cause : Cause) {b : Binding}
    (hb : (s.chan c).binding = some b) (hcurrent : s.handleOf b.handle.slot = b.handle) (j : SlotId) :
    (s.engineEnd c cause).file j =
      if b.handle.slot = j then
        (s.file j).map fun f => (f.modStage b.stage fun r =>
          r.applyEnd (s.retryLimit b.handle b.stage) ⟨.cutShort, cause, none⟩).judged
      else s.file j := by
  unfold State.engineEnd
  rw [hb]
  dsimp only
  rw [State.file_recompute_judged, State.file_directEnd, State.file_restChannel, State.file_modStage]
  have hhandle : (s.dropPosting c).handleOf j = s.handleOf j := rfl
  rw [hhandle, State.file_dropPosting]
  by_cases hj : b.handle.slot = j
  · subst hj; simp [hcurrent, Function.comp_def]
  · simp [hj]

/-- The engine-side end of a slot's bound channel writes no file but the slot's (R63, R64). -/
theorem State.file_freed_of_ne (s : State) {i j : SlotId} (cause : Cause) (h : i ≠ j) :
    (s.freed i cause).file j = s.file j := by
  unfold State.freed
  split
  · next c hc =>
    obtain ⟨b, hb, hhandle⟩ := State.boundTo_some hc
    unfold State.file
    rw [State.slot_engineEnd s c cause b hb j (by rw [hhandle]; exact h.symm)]
  · rfl

/-- The engine-side end of a damaged file's channel leaves the file, but for its verdict (R5, R64). -/
theorem State.file_freed_of_damaged (s : State) {i : SlotId} {f : FileRec} (cause : Cause) (hf : s.file i = some f)
    (hdamaged : f.records = none) : ((s.freed i cause).file i).map FileRec.judged = some f.judged := by
  unfold State.freed
  split
  · next c hc =>
    obtain ⟨b, hb, hhandle⟩ := State.boundTo_some hc
    have hslot : b.handle.slot = i := by rw [hhandle]; rfl
    rw [State.file_engineEnd s c cause hb (by rw [hslot]; exact hhandle.symm), hslot, if_pos rfl, hf]
    simp [FileRec.modStage, FileRec.judged, FileRec.verdictNow, hdamaged]
  · rw [hf]; rfl

/-- A damaged file keeps all but its stage records and its verdict, and no other file is written (R5, R180). -/
theorem State.file_damage (s : State) (i : SlotId) (f : FileRec) (j : SlotId) :
    (s.damage i f).file j = if i = j then some { f with records := none, verdict := .hold } else s.file j := by
  rw [State.damage_eq, State.file_recompute_judged]
  split
  · next hj =>
    subst hj
    exact State.file_freed_of_damaged ((s.setErrors i []).setFile i { f with records := none })
      (f := { f with records := none }) .damaged (by rw [State.file_setFile, if_pos rfl]) rfl
  · next hj => rw [State.file_freed_of_ne _ _ hj, State.file_setFile, if_neg hj, State.file_setErrors]

/-! ### The stage records after the shared operations -/

/-- Stage records stay where the files stay. -/
theorem State.records_congr {s t : State} {i : SlotId} (h : t.file i = s.file i) : t.records i = s.records i := by
  unfold State.records
  rw [h]

/-- A recomputation keeps the stage records (R146). -/
@[simp] theorem State.records_recompute (s : State) (i j : SlotId) : (s.recompute i).records j = s.records j := by
  unfold State.records
  rw [State.file_recompute]
  split
  · cases s.file j <;> rfl
  · rfl

/-- A file written brings its own stage records. -/
theorem State.records_setFile (s : State) (i : SlotId) (f : FileRec) (j : SlotId) :
    (s.setFile i f).records j = if i = j then f.records else s.records j := by
  unfold State.records
  rw [State.file_setFile]
  split <;> rfl

/-- A stage record changed, the others kept. -/
theorem State.records_modStage (s : State) (h : Handle) (t : Stage) (g : StageRecord → StageRecord) (j : SlotId) :
    (s.modStage h t g).records j =
      if h.slot = j ∧ s.handleOf j = h then (s.records j).map fun rs => rs.set t (g (rs.get t)) else s.records j := by
  unfold State.records
  rw [State.file_modStage]
  split
  · cases s.file j <;> rfl
  · rfl

/-- Damage loses the stage records of its file alone (R180). -/
theorem State.records_damage (s : State) (i : SlotId) (f : FileRec) (j : SlotId) :
    (s.damage i f).records j = if i = j then none else s.records j := by
  unfold State.records
  rw [State.file_damage]
  split <;> rfl

/-- A file's stage records. -/
theorem State.records_of_file {s : State} {i : SlotId} {f : FileRec} (hf : s.file i = some f) :
    s.records i = f.records := by
  unfold State.records
  rw [hf]
  rfl

/-- The operations of the engine keep every handle (R2). -/
theorem State.handleOf_congr {s t : State} {j : SlotId} (h : (t.slot j).gen = (s.slot j).gen) :
    t.handleOf j = s.handleOf j := by
  unfold State.handleOf
  rw [h]

/-! ### The claims -/

/-- The claims over all channels and stages. -/
structure State.ClaimsOk (s : State) : Prop where
  bound : ∀ (c : ChannelId) (b : Binding), (s.chan c).binding = some b → s.handleOf b.handle.slot = b.handle ∧
    ∃ rs, s.records b.handle.slot = some rs ∧ (rs.get b.stage).channel = some c ∧
      stateMatches (s.chan c).state (rs.get b.stage).state = true
  stages : ∀ i rs, s.records i = some rs → ∀ t, s.stageOk i t (rs.get t)
  single : ∀ i rs, s.records i = some rs → ∀ t u, (rs.get t).state.active = true → (rs.get u).state.active = true →
    t = u

/-- The standing condition of the claims. -/
theorem claimInv_iff (s : State) : ClaimInv s ↔ s.ClaimsOk := by
  have hrecords {i rs} : s.records i = some rs ↔ ∃ f, s.file i = some f ∧ f.records = some rs := by
    simp [State.records, Option.bind_eq_some_iff]
  have hat {h : Handle} {rs} : (s.fileAt h).bind (·.records) = some rs ↔
      s.handleOf h.slot = h ∧ s.records h.slot = some rs := by
    rw [hrecords, Option.bind_eq_some_iff]
    constructor
    · rintro ⟨f, hf, hrs⟩
      obtain ⟨hgen, hfile⟩ := State.fileAt_eq.mp hf
      exact ⟨by rw [State.handleOf, hgen], f, hfile, hrs⟩
    · rintro ⟨hcurrent, f, hf, hrs⟩
      exact ⟨f, State.fileAt_eq.mpr ⟨congrArg Handle.gen hcurrent, hf⟩, hrs⟩
  constructor
  · rintro ⟨hbound, hfiles⟩
    refine ⟨fun c b hb => ?_, fun i rs hrs t => ?_, fun i rs hrs t u => ?_⟩
    · obtain ⟨rs, hrs, hchannel, hmatch⟩ := hbound c (mem_allChannels c) b hb
      obtain ⟨hcurrent, hrs⟩ := hat.mp hrs
      exact ⟨hcurrent, rs, hrs, hchannel, hmatch⟩
    · obtain ⟨f, hf, hrs⟩ := hrecords.mp hrs
      exact (hfiles i f hf rs hrs).1 t (mem_allStages t)
    · obtain ⟨f, hf, hrs⟩ := hrecords.mp hrs
      exact (hfiles i f hf rs hrs).2 t (mem_allStages t) u (mem_allStages u)
  · rintro ⟨hbound, hstages, hsingle⟩
    refine ⟨fun c _ b hb => ?_, fun i f hf rs hrs => ⟨fun t _ => ?_, fun t _ u _ => ?_⟩⟩
    · obtain ⟨hcurrent, rs, hrs, hchannel, hmatch⟩ := hbound c b hb
      exact ⟨rs, hat.mpr ⟨hcurrent, hrs⟩, hchannel, hmatch⟩
    · exact hstages i rs (hrecords.mpr ⟨f, hf, hrs⟩) t
    · exact hsingle i rs (hrecords.mpr ⟨f, hf, hrs⟩) t u

/-- A channel state that goes with a stage state goes with an active one (R47). -/
theorem active_of_stateMatches {x : ChanState} {y : StageState} (h : stateMatches x y = true) : y.active = true := by
  revert h
  cases x <;> cases y <;> decide

/-- A stage is in order by the channels and the handle of its slot. -/
theorem State.stageOk_congr {s t : State} {i : SlotId} (hhandle : t.handleOf i = s.handleOf i) {x : Stage}
    {r : StageRecord}
    (hkept : ∀ c : ChannelId, (s.chan c).binding = some ⟨s.handleOf i, x⟩ → (t.chan c).binding = some ⟨s.handleOf i, x⟩)
    (h : s.stageOk i x r) : t.stageOk i x r := by
  unfold State.stageOk at h ⊢
  split
  · next hactive =>
    rw [if_pos hactive] at h
    obtain ⟨c, hc, hb⟩ := h
    exact ⟨c, hc, by rw [hhandle]; exact hkept c hb⟩
  · next hactive => rwa [if_neg hactive] at h

/-- A stage not active is in order when it names no channel. -/
theorem State.stageOk_of_inactive (s : State) (i : SlotId) (x : Stage) {r : StageRecord}
    (hactive : r.state.active = false) (hchannel : r.channel = none) : s.stageOk i x r := by
  unfold State.stageOk
  simpa [hactive] using hchannel

namespace State.ClaimsOk

variable {s t : State}

/-- The file of a bound channel has an active stage, the one bound (R47). -/
theorem active (h : s.ClaimsOk) {c : ChannelId} {b : Binding} (hb : (s.chan c).binding = some b) {rs : StageRecords}
    (hrs : s.records b.handle.slot = some rs) :
    (rs.get b.stage).channel = some c ∧ (rs.get b.stage).state.active = true := by
  obtain ⟨_, rs', hrs', hchannel, hmatch⟩ := h.bound c b hb
  cases hrs.symm.trans hrs'
  exact ⟨hchannel, active_of_stateMatches hmatch⟩

/-- At most one channel is bound to a file (R7, R47). -/
theorem unique (h : s.ClaimsOk) {c d : ChannelId} {b b' : Binding} (hb : (s.chan c).binding = some b)
    (hb' : (s.chan d).binding = some b') (hslot : b.handle.slot = b'.handle.slot) : c = d := by
  obtain ⟨_, rs, hrs, _⟩ := h.bound c b hb
  obtain ⟨hchannel, hactive⟩ := h.active hb hrs
  obtain ⟨hchannel', hactive'⟩ := h.active hb' (hslot ▸ hrs)
  have hstage := h.single _ rs hrs _ _ hactive hactive'
  rw [hstage] at hchannel
  exact Option.some.inj (hchannel.symm.trans hchannel')

/-- The claims stay where handles, stage records and bindings stay and each bound channel's state goes with what it went
with. -/
theorem congr (h : s.ClaimsOk) (hgen : ∀ j, (t.slot j).gen = (s.slot j).gen) (hrecords : ∀ j, t.records j = s.records j)
    (hbinding : ∀ c : ChannelId, (t.chan c).binding = (s.chan c).binding)
    (hstate : ∀ c b, (s.chan c).binding = some b → ∀ y, stateMatches (s.chan c).state y = true →
      stateMatches (t.chan c).state y = true) : t.ClaimsOk where
  bound c b hb := by
    rw [hbinding] at hb
    obtain ⟨hcurrent, rs, hrs, hchannel, hmatch⟩ := h.bound c b hb
    exact ⟨(State.handleOf_congr (hgen _)).trans hcurrent, rs, (hrecords _).trans hrs, hchannel,
      hstate c b hb _ hmatch⟩
  stages i rs hrs x := by
    rw [hrecords] at hrs
    exact State.stageOk_congr (State.handleOf_congr (hgen i)) (fun c hb => (hbinding c).trans hb) (h.stages i rs hrs x)
  single i rs hrs := h.single i rs ((hrecords i).symm.trans hrs)

/-- The claims stay where handles, stage records and channels stay. -/
theorem congr_chans (h : s.ClaimsOk) (hgen : ∀ j, (t.slot j).gen = (s.slot j).gen)
    (hrecords : ∀ j, t.records j = s.records j) (hchans : t.chans = s.chans) : t.ClaimsOk :=
  h.congr hgen hrecords (fun c => by rw [State.chan_congr hchans])
    fun c _ _ _ hmatch => by rw [State.chan_congr hchans]; exact hmatch

/-- The claims stay when a slot loses its stage records and its channel its binding. -/
theorem lose (h : s.ClaimsOk) (i : SlotId) (hgen : ∀ j, i ≠ j → (t.slot j).gen = (s.slot j).gen)
    (hlost : t.records i = none) (hrecords : ∀ j, i ≠ j → t.records j = s.records j)
    (hgone : ∀ c b, (s.chan c).binding = some b → b.handle.slot = i → (t.chan c).binding = none)
    (hkept : ∀ c : ChannelId, t.chan c = s.chan c ∨ (t.chan c).binding = none ∧
      ∃ b, (s.chan c).binding = some b ∧ b.handle.slot = i) : t.ClaimsOk where
  bound c b hb := by
    rcases hkept c with hc | ⟨hnone, _⟩
    · have hb' := hc ▸ hb
      have hi : i ≠ b.handle.slot := fun hi => by rw [hgone c b hb' hi.symm] at hb; cases hb
      obtain ⟨hcurrent, rs, hrs, hchannel, hmatch⟩ := h.bound c b hb'
      exact ⟨(State.handleOf_congr (hgen _ hi)).trans hcurrent, rs, (hrecords _ hi).trans hrs, hchannel,
        by rw [hc]; exact hmatch⟩
    · rw [hnone] at hb
      cases hb
  stages j rs hrs x := by
    have hi : i ≠ j := by rintro rfl; rw [hlost] at hrs; cases hrs
    rw [hrecords j hi] at hrs
    refine State.stageOk_congr (State.handleOf_congr (hgen j hi)) (fun c hb => ?_) (h.stages j rs hrs x)
    rcases hkept c with hc | ⟨_, b, hb', hslot⟩
    · rw [hc]; exact hb
    · cases hb.symm.trans hb'
      exact absurd hslot.symm hi
  single j rs hrs := by
    have hi : i ≠ j := by rintro rfl; rw [hlost] at hrs; cases hrs
    exact h.single j rs ((hrecords j hi).symm.trans hrs)

/-- The claims stay when a slot without records gets fresh ones, every stage without a channel (R16). -/
theorem fresh (h : s.ClaimsOk) (i : SlotId) (hgen : ∀ j, (t.slot j).gen = (s.slot j).gen) (hnone : s.records i = none)
    (hrecords : ∀ j, i ≠ j → t.records j = s.records j) (hchans : t.chans = s.chans)
    (hfresh : ∀ rs, t.records i = some rs → ∀ x, (rs.get x).state.active = false ∧ (rs.get x).channel = none) :
    t.ClaimsOk where
  bound c b hb := by
    rw [State.chan_congr hchans] at hb ⊢
    obtain ⟨hcurrent, rs, hrs, hmatch⟩ := h.bound c b hb
    have hi : i ≠ b.handle.slot := by rintro rfl; rw [hnone] at hrs; cases hrs
    exact ⟨(State.handleOf_congr (hgen _)).trans hcurrent, rs, (hrecords _ hi).trans hrs, hmatch⟩
  stages j rs hrs x := by
    by_cases hi : i = j
    · subst hi
      exact State.stageOk_of_inactive _ _ _ (hfresh rs hrs x).1 (hfresh rs hrs x).2
    · rw [hrecords j hi] at hrs
      exact State.stageOk_congr (State.handleOf_congr (hgen j)) (fun c hb => by rw [State.chan_congr hchans]; exact hb)
        (h.stages j rs hrs x)
  single j rs hrs x y hx hy := by
    by_cases hi : i = j
    · subst hi
      rw [(hfresh rs hrs x).1] at hx
      cases hx
    · exact h.single j rs ((hrecords j hi).symm.trans hrs) x y hx hy

/-- The claims stay when one stage record changes, and the bindings to that stage alone change with it. -/
theorem setStage (h : s.ClaimsOk) {i : SlotId} {rs : StageRecords} (x : Stage) (r : StageRecord)
    (hrs : s.records i = some rs) (hgen : ∀ j, (t.slot j).gen = (s.slot j).gen)
    (hset : t.records i = some (rs.set x r)) (hrecords : ∀ j, i ≠ j → t.records j = s.records j)
    (hothers : ∀ c : ChannelId, t.chan c = s.chan c ∨
      ((s.chan c).binding = none ∨ (s.chan c).binding = some ⟨s.handleOf i, x⟩) ∧
      ((t.chan c).binding = none ∨ (t.chan c).binding = some ⟨s.handleOf i, x⟩))
    (hbound : ∀ c : ChannelId, (t.chan c).binding = some ⟨s.handleOf i, x⟩ →
      r.channel = some c ∧ stateMatches (t.chan c).state r.state = true)
    (hok : t.stageOk i x r)
    (hone : r.state.active = true → ∀ y, y ≠ x → (rs.get y).state.active = false) : t.ClaimsOk where
  bound c b hb := by
    by_cases hbx : b = ⟨s.handleOf i, x⟩
    · subst hbx
      exact ⟨State.handleOf_congr (hgen _), rs.set x r, hset, by simpa using hbound c hb⟩
    · have hc : t.chan c = s.chan c := by
        refine (hothers c).resolve_right fun ⟨_, hnew⟩ => ?_
        rw [hb] at hnew
        rcases hnew with hnew | hnew
        · cases hnew
        · exact hbx (Option.some.inj hnew)
      rw [hc] at hb ⊢
      obtain ⟨hcurrent, rs', hrs', hmatch⟩ := h.bound c b hb
      refine ⟨(State.handleOf_congr (hgen _)).trans hcurrent, ?_⟩
      by_cases hi : i = b.handle.slot
      · subst hi
        cases hrs.symm.trans hrs'
        have hx : x ≠ b.stage := by
          rintro rfl
          exact hbx (by rw [hcurrent])
        exact ⟨_, hset, by simpa [hx] using hmatch⟩
      · exact ⟨rs', (hrecords _ hi).trans hrs', hmatch⟩
  stages j rs' hrs' y := by
    have hkept (hy : i = j → x ≠ y) (c : ChannelId) (hb : (s.chan c).binding = some ⟨s.handleOf j, y⟩) :
        (t.chan c).binding = some ⟨s.handleOf j, y⟩ := by
      rcases hothers c with hc | ⟨hold, _⟩
      · rw [hc]; exact hb
      · rw [hb] at hold
        rcases hold with hold | hold
        · cases hold
        · cases hold
          exact absurd rfl (hy rfl)
    by_cases hi : i = j
    · subst hi
      cases hset.symm.trans hrs'
      rw [StageRecords.get_set]
      split
      · next hy => subst hy; exact hok
      · next hy => exact State.stageOk_congr (State.handleOf_congr (hgen i)) (hkept fun _ => hy) (h.stages i rs hrs y)
    · rw [hrecords j hi] at hrs'
      exact State.stageOk_congr (State.handleOf_congr (hgen j)) (hkept fun hij => absurd hij hi) (h.stages j rs' hrs' y)
  single j rs' hrs' y z hy hz := by
    by_cases hi : i = j
    · subst hi
      cases hset.symm.trans hrs'
      rw [StageRecords.get_set] at hy hz
      split at hy <;> split at hz
      · next hxy hxz => exact hxy.symm.trans hxz
      · next hxy hxz => rw [hone hy z (Ne.symm hxz)] at hz; cases hz
      · next hxy hxz => rw [hone hz y (Ne.symm hxy)] at hy; cases hy
      · exact h.single i rs hrs y z hy hz
    · exact h.single j rs' ((hrecords j hi).symm.trans hrs') y z hy hz

/-- A recomputation keeps the claims (R146). -/
theorem recompute (h : s.ClaimsOk) (i : SlotId) : (s.recompute i).ClaimsOk :=
  h.congr_chans (fun _ => State.gen_recompute s i _) (fun _ => State.records_recompute s i _) (by simp)

/-- The claims stay when a bound stage ends and its channel is freed (R54, R60, R62). -/
theorem unbind (h : s.ClaimsOk) {c : ChannelId} {b : Binding} (hb : (s.chan c).binding = some b)
    {g : StageRecord → StageRecord} (hg : ∀ r, (g r).state.active = false ∧ (g r).channel = none) :
    ((s.modStage b.handle b.stage g).restChannel c).ClaimsOk := by
  obtain ⟨hcurrent, rs, hrs, _⟩ := h.bound c b hb
  have hchan (d) : ((s.modStage b.handle b.stage g).restChannel c).chan d = if c = d then .rest else s.chan d := by
    rw [State.chan_restChannel, State.chan_congr (State.modStage_chans _ _ _ _)]
  have hrecords (j) : ((s.modStage b.handle b.stage g).restChannel c).records j =
      if b.handle.slot = j ∧ s.handleOf j = b.handle then (s.records j).map fun rs => rs.set b.stage (g (rs.get b.stage))
      else s.records j := by
    rw [State.records_congr (State.file_restChannel _ _ _), State.records_modStage]
  obtain ⟨hinactive, hchannel⟩ := hg (rs.get b.stage)
  refine h.setStage b.stage (g (rs.get b.stage)) hrs (fun j => by simp) (by rw [hrecords]; simp [hcurrent, hrs])
    (fun j hj => by rw [hrecords, if_neg fun hij => hj hij.1]) (fun d => ?_) (fun d hd => ?_)
    (State.stageOk_of_inactive _ _ _ hinactive hchannel) (fun hactive => by rw [hinactive] at hactive; cases hactive)
  · rw [hchan, hcurrent]
    split
    · next hd => subst hd; exact .inr ⟨.inr hb, .inl rfl⟩
    · exact .inl rfl
  · rw [hchan, hcurrent] at hd
    split at hd
    · cases hd
    · next hcd => exact absurd (h.unique hb hd rfl) hcd

/-- An engine-side end keeps the claims (R62). -/
theorem engineEnd (h : s.ClaimsOk) (c : ChannelId) (cause : Cause) : (s.engineEnd c cause).ClaimsOk := by
  unfold State.engineEnd
  split
  · next b hb =>
    have hdropped : (s.dropPosting c).ClaimsOk := h.congr_chans (fun _ => rfl) (fun _ => rfl) rfl
    have hended := hdropped.unbind (c := c) (b := b) hb
      (g := fun r => r.applyEnd (s.retryLimit b.handle b.stage) ⟨.cutShort, cause, none⟩) fun r =>
        ⟨by unfold StageRecord.applyEnd stateAfterEnd; dsimp only; split <;> rfl, rfl⟩
    refine recompute (hended.congr_chans (fun _ => by simp) (fun j => State.records_congr ?_) (by simp)) _
    exact State.file_directEnd _ _ _ _ _ _
  · exact h

/-- The channel found bound to a file's handle is the one bound to its slot (R180). -/
theorem boundTo_none (h : s.ClaimsOk) {i : SlotId} (hnone : s.boundTo (s.handleOf i) = none) {c : ChannelId} {b : Binding}
    (hb : (s.chan c).binding = some b) : b.handle.slot ≠ i := by
  rintro rfl
  have := List.find?_eq_none.mp hnone c (mem_allChannels c)
  simp [hb, (h.bound c b hb).1] at this

/-- The engine-side end of a slot's bound channel, its records lost or not, leaves no channel bound to the slot
(R63, R64). -/
theorem chan_freed (h : s.ClaimsOk) {u : State} (hchans : u.chans = s.chans) {i : SlotId}
    (hhandle : u.handleOf i = s.handleOf i) (cause : Cause) :
    (∀ c b, (s.chan c).binding = some b → b.handle.slot = i → ((u.freed i cause).chan c).binding = none) ∧
    ∀ c : ChannelId, (u.freed i cause).chan c = s.chan c ∨ ((u.freed i cause).chan c).binding = none ∧
      ∃ b, (s.chan c).binding = some b ∧ b.handle.slot = i := by
  unfold State.freed
  rw [State.boundTo_congr hchans, hhandle]
  rcases hbound : s.boundTo (s.handleOf i) with _ | d
  · exact ⟨fun c b hb hslot => absurd hslot (h.boundTo_none hbound hb), fun c => .inl (State.chan_congr hchans c)⟩
  · obtain ⟨b, hb, hbh⟩ := State.boundTo_some hbound
    have hslot : b.handle.slot = i := by rw [hbh]; rfl
    have hchan (c) : (u.engineEnd d cause).chan c = if d = c then .rest else s.chan c := by
      rw [State.chan_engineEnd, State.chan_congr hchans, State.chan_congr hchans, hb]
      rfl
    refine ⟨fun c b' hb' hslot' => ?_, fun c => ?_⟩
    · rw [hchan, if_pos (h.unique hb hb' (hslot.trans hslot'.symm))]
      rfl
    · rw [hchan]
      split
      · next hdc => subst hdc; exact .inr ⟨rfl, b, hb, hslot⟩
      · exact .inl rfl

/-- The damage of a live file keeps the claims (R64, R180). -/
theorem damage (h : s.ClaimsOk) (i : SlotId) (f : FileRec) : (s.damage i f).ClaimsOk := by
  set u := (s.setErrors i []).setFile i { f with records := none } with hu
  obtain ⟨hgone, hkept⟩ := h.chan_freed (u := u) (i := i) rfl (by simp [hu, State.handleOf]) .damaged
  have hchan (c) : (s.damage i f).chan c = (u.freed i .damaged).chan c := State.chan_congr (State.recompute_chans _ _) c
  refine h.lose i (fun j _ => by simp) (by rw [State.records_damage, if_pos rfl])
    (fun j hj => by rw [State.records_damage, if_neg hj]) (fun c b hb hslot => ?_) (fun c => ?_)
  · rw [hchan]; exact hgone c b hb hslot
  · rw [hchan]; exact hkept c

/-- The read of a file keeps the claims (R14). -/
theorem readFile (h : s.ClaimsOk) (item : CaptureItem) (i : SlotId) : (s.readFile item i).ClaimsOk :=
  readFile_kept (P := State.ClaimsOk)
    (fun _ _ _ _ h => h.congr_chans (fun _ => by simp) (fun _ => State.records_congr (by simp)) (by simp))
    (fun _ _ _ _ h => h.congr_chans (fun _ => State.gen_setErrors _ _ _ _) (fun _ => State.records_congr (by simp)) rfl)
    (fun _ i f _ h => h.damage i f) h item i

/-- The engine-side end of a slot's bound channel keeps the claims (R63). -/
theorem freed (h : s.ClaimsOk) (i : SlotId) (cause : Cause) : (s.freed i cause).ClaimsOk :=
  freed_kept (P := State.ClaimsOk) (fun _ c x h => h.engineEnd c x) h i cause

/-- A file no channel is bound to may retire (R147). -/
theorem retire (h : s.ClaimsOk) (i : SlotId) (f : FileRec)
    (hunbound : ∀ c b, (s.chan c).binding = some b → b.handle.slot ≠ i) : (s.retire i f).ClaimsOk := by
  have hslot (j) : (s.retire i f).slot j = if i = j then ⟨(s.slot i).gen + 1, none, []⟩ else s.slot j :=
    State.slot_setSlot _ _ _ _
  refine h.lose i (fun j hj => by rw [hslot, if_neg hj]) ?_ (fun j hj => State.records_congr ?_)
    (fun c b hb hi => absurd hi (hunbound c b hb)) fun c => .inl rfl
  · rw [State.records, State.file, hslot, if_pos rfl]; rfl
  · rw [State.file, hslot, if_neg hj]; rfl

/-- A posting applied to its stage keeps the claims (R54, R60). -/
theorem applyPosting (h : s.ClaimsOk) (item : CaptureItem) {p : Posting}
    (hp : (s.chan p.channel).binding = some ⟨p.handle, p.stage⟩) {effect : State → State}
    (heffect : ∀ u : State, u.ClaimsOk → (u.chan p.channel).binding = some ⟨p.handle, p.stage⟩ → (effect u).ClaimsOk) :
    (s.applyPosting item p effect).ClaimsOk := by
  have hpopped : s.popPosting.ClaimsOk := h.congr_chans (fun _ => rfl) (fun _ => rfl) rfl
  obtain ⟨hcurrent, rs, hrs, _⟩ := h.bound _ _ hp
  obtain ⟨f, hf, _⟩ := Option.bind_eq_some_iff.mp hrs
  have hlive : s.popPosting.fileAt p.handle = some f :=
    State.fileAt_eq.mpr ⟨congrArg Handle.gen hcurrent, hf⟩
  unfold State.applyPosting
  dsimp only
  rw [hlive]
  dsimp only
  have hread := hpopped.readFile item p.handle.slot
  split
  · next hending =>
    refine heffect _ hread ?_
    rcases State.chan_readFile s.popPosting item p.handle.slot p.channel with hsame | hrest
    · rw [hsame]; exact hp
    · rw [hrest] at hending; cases hending
  · exact hread

/-- A failed stage opened again keeps the claims (R24). -/
theorem reopen (h : s.ClaimsOk) (i : SlotId) {f : FileRec} {rs : StageRecords} {x : Stage} (hf : s.file i = some f)
    (hrs : f.records = some rs) (hfailed : (rs.get x).state = .failed) :
    (s.setFile i (f.modStage x StageRecord.reopen)).ClaimsOk := by
  have hold : s.records i = some rs := (State.records_of_file hf).trans hrs
  have hchannel : (rs.get x).channel = none := by
    have hok := h.stages i rs hold x
    rwa [State.stageOk, if_neg (by simp [hfailed, StageState.active])] at hok
  refine h.setStage x (rs.get x).reopen hold (fun j => State.gen_setFile _ _ _ _)
    (by rw [State.records_setFile, if_pos rfl, FileRec.modStage, hrs]; rfl)
    (fun j hj => by rw [State.records_setFile, if_neg hj]) (fun c => .inl rfl) (fun c hb => ?_)
    (State.stageOk_of_inactive _ _ _ rfl hchannel) (fun hactive => by cases hactive)
  have hactive := (h.active (b := ⟨s.handleOf i, x⟩) hb hold).2
  rw [hfailed] at hactive
  cases hactive

/-- The claim of an open stage of a file with no active stage, for a channel bound to nothing, keeps the claims
(R50). -/
theorem bindChannel (h : s.ClaimsOk) (i : SlotId) {f : FileRec} {rs : StageRecords} {x : Stage} {c : ChannelId}
    (hf : s.file i = some f) (hrs : f.records = some rs) (hopen : (rs.get x).state = .opened)
    (hother : rs.otherActive x = false) (hfree : (s.chan c).binding = none) : (s.bindChannel i f x c).ClaimsOk := by
  have hold : s.records i = some rs := (State.records_of_file hf).trans hrs
  have hrecords (j) : (s.bindChannel i f x c).records j =
      if i = j then some (rs.set x { rs.get x with state := .claimed, channel := some c }) else s.records j := by
    refine (State.records_setFile s i _ j).trans ?_
    rw [FileRec.modStage, hrs]
    rfl
  have hchan (d) : (s.bindChannel i f x c).chan d = if c = d then
      ⟨.claimed, some ⟨s.handleOf i, x⟩, claimLimitMs (s.bank f.bank).contents.claimCode, none⟩ else s.chan d := by
    unfold State.bindChannel
    rw [State.chan_setChan]
    rfl
  have hhandle : (s.bindChannel i f x c).handleOf i = s.handleOf i :=
    State.handleOf_congr (State.gen_setFile _ _ _ _)
  refine h.setStage x { rs.get x with state := .claimed, channel := some c } hold (fun j => State.gen_setFile _ _ _ _)
    (by rw [hrecords, if_pos rfl]) (fun j hj => by rw [hrecords, if_neg hj]) (fun d => ?_) (fun d hd => ?_) ?_
    fun _ y hy => ?_
  · rw [hchan]
    split
    · next hd => subst hd; exact .inr ⟨.inl hfree, .inr rfl⟩
    · exact .inl rfl
  · rw [hchan] at hd ⊢
    split at hd
    · next hcd => subst hcd; exact ⟨rfl, by rw [if_pos rfl]; rfl⟩
    · have hactive := (h.active hd hold).2
      rw [hopen] at hactive
      cases hactive
  · exact ⟨c, rfl, by rw [hchan, if_pos rfl, hhandle]⟩
  · have hno := List.any_eq_false.mp hother y (mem_allStages y)
    simpa [hy] using hno

/-- The start of a claimed stage keeps the claims (R55). -/
theorem startStage (h : s.ClaimsOk) {c : ChannelId} {b : Binding} (hb : (s.chan c).binding = some b)
    (hclaimed : (s.chan c).state = .claimed) : (s.startStage c b).ClaimsOk := by
  obtain ⟨hcurrent, rs, hrs, hchannel, hmatch⟩ := h.bound c b hb
  have hstate : (rs.get b.stage).state = .claimed := by simpa [hclaimed, stateMatches] using hmatch
  unfold State.startStage
  refine recompute ?_ _
  set u := s.setChan c ⟨.running, some b, none, some ((s.bankOf c).contents.stageLimitMs b.stage)⟩ with hu
  set v := (u.modStage b.handle b.stage StageRecord.start).startAnalyzer c with hv
  have hengine : v.engine = (u.modStage b.handle b.stage StageRecord.start).engine := (State.startAnalyzer_frame _ c).1
  have hslot (j) : v.slot j = (u.modStage b.handle b.stage StageRecord.start).slot j := by
    unfold State.slot; rw [hengine]
  have hrecords (j) : v.records j =
      if b.handle.slot = j ∧ s.handleOf j = b.handle then
        (s.records j).map fun rs => rs.set b.stage (rs.get b.stage).start
      else s.records j := by
    rw [State.records_congr (s := u.modStage b.handle b.stage StageRecord.start) (by unfold State.file; rw [hslot]),
      State.records_modStage]
    rfl
  have hchan (d) : v.chan d = if c = d then
      ⟨.running, some b, none, some ((s.bankOf c).contents.stageLimitMs b.stage)⟩ else s.chan d := by
    rw [hv, State.chan_congr (State.startAnalyzer_frame _ c).2.1, State.chan_congr (State.modStage_chans _ _ _ _), hu,
      State.chan_setChan]
  have hgen (j) : (v.slot j).gen = (s.slot j).gen := by
    rw [hslot, State.gen_modStage]
    rfl
  refine h.setStage b.stage (rs.get b.stage).start hrs hgen (by rw [hrecords]; simp [hcurrent, hrs])
    (fun j hj => by rw [hrecords, if_neg fun hij => hj hij.1]) (fun d => ?_) (fun d hd => ?_) ?_ fun _ y hy => ?_
  · rw [hchan, hcurrent]
    split
    · next hd => subst hd; exact .inr ⟨.inr hb, .inr rfl⟩
    · exact .inl rfl
  · rw [hchan, hcurrent] at hd
    have hcd : c = d := by
      by_contra hcd
      rw [if_neg hcd] at hd
      exact hcd (h.unique hb hd rfl)
    subst hcd
    exact ⟨hchannel, by rw [hchan, if_pos rfl]; rfl⟩
  · exact ⟨c, hchannel, by rw [hchan, if_pos rfl, State.handleOf_congr (hgen _), hcurrent]⟩
  · by_contra hactive
    exact hy (h.single _ rs hrs y b.stage (by simpa using hactive) (by simp [hstate, StageState.active]))

/-- The claims are in order at power-on (R170). -/
theorem powerOn (pending : List Instr) (low : Bool) : (State.powerOn pending low).ClaimsOk := by
  have hbinding (c) : ((State.powerOn pending low).chan c).binding = none := by cases c <;> rfl
  have hrecords (i) : (State.powerOn pending low).records i = none := by
    simp [State.powerOn, State.records, State.file, State.slot]
  refine ⟨fun c b hb => ?_, fun i rs hrs => ?_, fun i rs hrs => ?_⟩
  · rw [hbinding] at hb; cases hb
  · rw [hrecords] at hrs; cases hrs
  · rw [hrecords] at hrs; cases hrs

end State.ClaimsOk

/-- The channel of a posting at the front of the queue is bound to the posting's handle and stage (R57). -/
theorem ChannelInv.binding_of_posting {s : State} (h : ChannelInv s) {p : Posting} {rest : List Posting}
    (hp : s.arbiter.postings = p :: rest) : (s.chan p.channel).binding = some ⟨p.handle, p.stage⟩ := by
  rw [(((channelInv_iff s).mp h).ending p (by rw [hp]; exact List.mem_cons_self)).1]

/-- A fresh stage record is not active and names no channel (R7). -/
theorem StageRecords.fresh_inactive (c : Contents) (x : Stage) :
    ((StageRecords.fresh c).get x).state.active = false ∧ ((StageRecords.fresh c).get x).channel = none := by
  have hfresh (b : Bool) : (StageRecord.fresh b).state.active = false ∧ (StageRecord.fresh b).channel = none := by
    cases b <;> exact ⟨rfl, rfl⟩
  cases x <;> exact hfresh _

/-- Every move keeps the claims, where the channels are in order. -/
theorem State.ClaimsOk.move {s t : State} (hm : Move s t) (hchannels : ChannelInv s) (h : s.ClaimsOk) : t.ClaimsOk := by
  cases hm with
  | damage i f => exact h.damage i f
  | engineEnd c cause => exact h.engineEnd c cause
  | errors i errs =>
    exact h.congr_chans (fun _ => State.gen_setErrors _ _ _ _) (fun _ => State.records_congr (by simp)) rfl
  | disturb ds => exact h.congr_chans (fun _ => by simp [Slot.disturb]) (fun _ => State.records_congr (by simp)) rfl
  | post c b kind hb hstate =>
    have hchan (d) : (s.post c b kind).chan d = if c = d then ⟨.ending, some b, none, none⟩ else s.chan d := by
      unfold State.post
      rw [State.chan_congr (State.clearAnalyzer_chans _ _), State.chan_setChan]
      rfl
    refine h.congr (fun _ => by simp [State.slot]) (fun _ => State.records_congr (by simp [State.file, State.slot]))
      (fun d => ?_) (fun d b' _ y hmatch => ?_) <;> rw [hchan] <;> split
    · next hd => subst hd; exact hb.symm
    · rfl
    · exact active_of_stateMatches hmatch
    · exact hmatch
  | applyEnd item p rest e hp =>
    refine h.applyPosting item (hchannels.binding_of_posting hp) fun u hu hb => ?_
    refine (hu.unbind hb (g := fun r => r.applyEnd (u.retryLimit p.handle p.stage) e) fun r => ⟨?_, rfl⟩).recompute _
    unfold StageRecord.applyEnd stateAfterEnd
    dsimp only
    repeat' split
    all_goals rfl
  | applyLapse item p rest hp =>
    refine h.applyPosting item (hchannels.binding_of_posting hp) fun u hu hb => ?_
    have hlapsed := (hu.unbind hb (g := StageRecord.lapse) fun r => ⟨rfl, rfl⟩).recompute p.handle.slot
    exact hlapsed.congr_chans (fun _ => by simp [State.applyLapse, State.slot])
      (fun _ => State.records_congr (by simp [State.applyLapse, State.file, State.slot])) (by simp [State.applyLapse])
  | release i f hf hactive =>
    refine h.retire i f fun c b hb hi => ?_
    subst hi
    obtain ⟨_, rs, hrs, _⟩ := h.bound c b hb
    have hrs' : f.records = some rs := (State.records_of_file hf).symm.trans hrs
    rw [FileRec.activeStage, hrs', Option.bind_some, Option.map_eq_none_iff, List.find?_eq_none] at hactive
    exact hactive b.stage (mem_allStages b.stage) (h.active hb hrs).2
  | forceRetire i f =>
    refine (h.freed i .forced).retire i f fun c b hb hi => ?_
    obtain ⟨hgone, hkept⟩ := h.chan_freed (u := s) rfl (i := i) rfl .forced
    rcases hkept c with hc | ⟨hnone, _⟩
    · rw [hgone c b (hc ▸ hb) hi] at hb; cases hb
    · rw [hnone] at hb; cases hb
  | admitFile i serial v b _ _ hfree =>
    have hslot (j) : (s.openFile i serial v b).slot j = if i = j then ⟨(s.slot i).gen,
        some ⟨serial, v, nextOrder s.engine.admissions, b, [], .pending, some (.fresh (s.bank b).contents)⟩, []⟩
        else s.slot j := State.slot_setSlot _ _ _ _
    refine State.ClaimsOk.recompute (h.fresh i (t := s.openFile i serial v b) (fun j => ?_) ?_ (fun j hj => ?_) rfl
      fun rs hrs => ?_) i
    · rw [hslot]; split
      · next hj => subst hj; rfl
      · rfl
    · rw [State.records, hfree]; rfl
    · exact State.records_congr (by rw [State.file, hslot, if_neg hj]; rfl)
    · rw [State.records, State.file_openFile] at hrs
      cases hrs
      exact StageRecords.fresh_inactive _
  | holds i f holds hf =>
    refine (h.congr_chans (t := s.setFile i { f with holds := holds }) (fun _ => State.gen_setFile _ _ _ _)
      (fun j => ?_) rfl).recompute i
    rw [State.records_setFile]
    split
    · next hj => subst hj; exact (State.records_of_file hf).symm
    · rfl
  | reopen i f rs x hf hrs hfailed => exact (h.reopen i hf hrs hfailed).recompute i
  | claim i f rs x c hf hrs hopen hother _ hidle =>
    have hfree : (s.chan c).binding = none := by
      rw [((((channelInv_iff s).mp hchannels).channel c).idle hidle)]; rfl
    exact (h.bindChannel i hf hrs hopen hother hfree).recompute i
  | start c b hb hclaimed => exact h.startStage hb hclaimed
  | noiseEvaluates =>
    refine h.congr (fun _ => rfl) (fun _ => rfl) (fun c => ?_) (fun c _ _ _ hmatch => ?_)
    · cases c <;> rfl
    · cases c <;> exact hmatch
  | leakEvaluates c a =>
    have hchan (d) : ((s.setLeak c a).setChan c.id { s.chan c.id with stageTimer := none }).chan d =
        if c.id = d then { s.chan c.id with stageTimer := none } else s.chan d := by
      rw [State.chan_setChan, State.chan_setLeak]
    refine h.congr (fun _ => by simp [State.slot]) (fun _ => State.records_congr (by simp [State.file, State.slot]))
      (fun d => ?_) (fun d _ _ y hmatch => ?_) <;> rw [hchan] <;> split
    · next hd => subst hd; rfl
    · rfl
    · next hd => subst hd; exact hmatch
    · exact hmatch
  | settle hunbound =>
    have hrest (c : ChannelId) : (s.settleReset.chan c).binding = none := by cases c <;> rfl
    exact h.congr (fun _ => rfl) (fun _ => rfl) (fun c => (hrest c).trans (hunbound c).symm)
      fun c b hb => by rw [hunbound] at hb; cases hb
  | powerOn low => exact State.ClaimsOk.powerOn s.pending low
  | monitor c m =>
    exact h.congr_chans (fun _ => by simp [State.slot]) (fun _ => State.records_congr (by simp [State.file, State.slot]))
      (by simp)
  | leak c a =>
    exact h.congr_chans (fun _ => by simp [State.slot]) (fun _ => State.records_congr (by simp [State.file, State.slot]))
      (by simp)
  | ports | settings | bank | cursor | windows | input | noise =>
    exact h.congr_chans (fun _ => rfl) (fun _ => rfl) rfl

/-- Settles O54: every move keeps the claims, the channels in order. -/
theorem everyStepKeepsBindingsAndStagesTogether : Obligations.EveryStepKeepsBindingsAndStagesTogether := by
  intro s t hchannels h hstep
  refine (kept_by_step (P := fun u => ChannelInv u ∧ ClaimInv u) (fun hm hu => ⟨hu.1.move hm, ?_⟩)
    (fun u rest hu => ⟨hu.1.congr rfl rfl rfl rfl rfl rfl, hu.2⟩) ⟨hchannels, h⟩ hstep).2
  exact (claimInv_iff _).mpr (((claimInv_iff _).mp hu.2).move hm hu.1)

end Sys2Proof.Machine
end

section
/-! What every step keeps: the files' own fields and the words standing in error (R3 to R8, R13, R178). -/

namespace Sys2Proof.Machine

/-! ### The words standing in error -/

/-- The words of a record stand in the order they are read, each once (R178). -/
def RecordErrors.inOrder (errs : RecordErrors) : Prop := errs.Pairwise fun a b => a.word < b.word

/-- One more word gone wrong leaves the words in order (R178). -/
theorem inOrder_insertError {errs : RecordErrors} (h : RecordErrors.inOrder errs) (e : WordError) :
    RecordErrors.inOrder (insertError errs e) := by
  unfold RecordErrors.inOrder insertError at *
  rw [List.pairwise_append, List.pairwise_cons]
  refine ⟨h.filter _, ⟨fun x hx => ?_, h.filter _⟩, fun a ha b hb => ?_⟩
  · simpa using (List.mem_filter.mp hx).2
  · have hae : a.word < e.word := by simpa using (List.mem_filter.mp ha).2
    rcases List.mem_cons.mp hb with rfl | hb
    · exact hae
    · have hbe : e.word < b.word := by simpa using (List.mem_filter.mp hb).2
      exact hae.trans hbe

/-- Words gone wrong leave a slot's words in order (R178). -/
theorem inOrder_disturb {v : Slot} (h : RecordErrors.inOrder v.errors) (es : List WordError) :
    RecordErrors.inOrder (v.disturb es).errors := by
  change RecordErrors.inOrder (es.foldl insertError v.errors)
  generalize v.errors = errs at h
  induction es generalizing errs with
  | nil => exact h
  | cons e es ih => exact ih _ (inOrder_insertError h e)

/-- A file written keeps the words in error. -/
theorem State.errors_setFile (s : State) (i j : SlotId) (f : FileRec) :
    ((s.setFile i f).slot j).errors = (s.slot j).errors := by
  unfold State.setFile
  rw [State.slot_setSlot]
  split
  · next hj => subst hj; rfl
  · rfl

/-- A recomputation keeps the words in error. -/
theorem State.errors_recompute (s : State) (i j : SlotId) :
    ((s.recompute i).slot j).errors = (s.slot j).errors := by
  unfold State.recompute
  split
  · split
    · rfl
    · rw [State.slot_raise, State.errors_setFile]
  · rfl

/-- A stage record changed keeps the words in error. -/
theorem State.errors_modStage (s : State) (h : Handle) (t : Stage) (g : StageRecord → StageRecord) (j : SlotId) :
    ((s.modStage h t g).slot j).errors = (s.slot j).errors := by
  unfold State.modStage
  split
  · rw [State.errors_setFile]
  · rfl

/-! ### A file's own fields -/

/-- A stage's reopen count and last outcome are in order (R7, R8). -/
def StageRecord.fieldsOk (r : StageRecord) (t : Stage) : Prop :=
  r.reopens ≤ Config.reopenLimit ∧ ∀ e ∈ r.last, e.okFor t = true

/-- A file's own fields are in order, but for its stored verdict (R3, R4, R7, R8). -/
structure FileRec.fieldsOk (f : FileRec) : Prop where
  serial : f.serial.all isSerialByte = true
  order_pos : 1 ≤ f.order
  order_le : f.order ≤ 65535
  holds_length : f.holds.length ≤ Config.holdLimit
  holds_nodup : f.holds.Nodup
  holds_range : ∀ r ∈ f.holds, 1 ≤ r ∧ r ≤ 15
  stage : ∀ rs, f.records = some rs → ∀ t, (rs.get t).fieldsOk t

/-- A file is in order where its fields are and its stored verdict is theirs. -/
theorem FileRec.ok_iff (f : FileRec) : f.ok ↔ f.fieldsOk ∧ f.verdict = f.verdictNow := by
  constructor
  · rintro ⟨h1, h2, h3, h4, h5, h6, hverdict, hrecords⟩
    exact ⟨⟨h1, h2, h3, h4, h5, h6, fun rs hrs t => hrecords rs hrs t (mem_allStages t)⟩, hverdict⟩
  · rintro ⟨⟨h1, h2, h3, h4, h5, h6, hrecords⟩, hverdict⟩
    exact ⟨h1, h2, h3, h4, h5, h6, hverdict, fun rs hrs t _ => hrecords rs hrs t⟩

/-- One stage record changed to one in order keeps the file's fields in order. -/
theorem FileRec.fieldsOk.modStage {f : FileRec} (h : f.fieldsOk) (t : Stage) {g : StageRecord → StageRecord}
    (hg : ∀ rs, f.records = some rs → (rs.get t).fieldsOk t → (g (rs.get t)).fieldsOk t) :
    (f.modStage t g).fieldsOk := by
  refine ⟨h.serial, h.order_pos, h.order_le, h.holds_length, h.holds_nodup, h.holds_range, fun rs hrs u => ?_⟩
  obtain ⟨rs', hrs', rfl⟩ := Option.map_eq_some_iff.mp hrs
  rw [StageRecords.get_set]
  split
  · next hu => subst hu; exact hg rs' hrs' (h.stage rs' hrs' t)
  · exact h.stage rs' hrs' u

/-- A damaged file's fields are in order (R5). -/
theorem FileRec.fieldsOk.damaged {f : FileRec} (h : f.fieldsOk) : ({ f with records := none } : FileRec).fieldsOk :=
  ⟨h.serial, h.order_pos, h.order_le, h.holds_length, h.holds_nodup, h.holds_range, fun rs hrs => by cases hrs⟩

/-! ### The files of a state -/

/-- The files are in order, but for the stored verdict of one slot, if any. -/
structure State.FilesOk (s : State) (o : Option SlotId) : Prop where
  admissions : s.engine.admissions ≤ 65535
  fields : ∀ i f, s.file i = some f → f.fieldsOk
  verdict : ∀ i f, o ≠ some i → s.file i = some f → f.verdict = f.verdictNow
  errors : ∀ i, RecordErrors.inOrder (s.slot i).errors

/-- The standing condition of the files. -/
theorem fileInv_iff (s : State) : FileInv s ↔ s.FilesOk none := by
  constructor
  · rintro ⟨hadm, hfiles, herrors⟩
    exact ⟨hadm, fun i f hf => ((FileRec.ok_iff f).mp (hfiles i f hf)).1,
      fun i f _ hf => ((FileRec.ok_iff f).mp (hfiles i f hf)).2, herrors⟩
  · intro h
    exact ⟨h.admissions, fun i f hf => (FileRec.ok_iff f).mpr ⟨h.fields i f hf, h.verdict i f nofun hf⟩, h.errors⟩

namespace State.FilesOk

variable {s t : State} {o : Option SlotId}

/-- The files in order are in order but for any slot's verdict. -/
theorem unjudged (h : s.FilesOk none) (o : Option SlotId) : s.FilesOk o :=
  ⟨h.admissions, h.fields, fun i f _ hf => h.verdict i f nofun hf, h.errors⟩

/-- The files stay in order where the admission counter and the slots stay. -/
theorem congr (h : s.FilesOk o) (hadm : t.engine.admissions = s.engine.admissions) (hslot : ∀ i, t.slot i = s.slot i) :
    t.FilesOk o := by
  have hfile (i) : t.file i = s.file i := congrArg Slot.file (hslot i)
  exact ⟨hadm ▸ h.admissions, fun i f hf => h.fields i f ((hfile i).symm.trans hf),
    fun i f hi hf => h.verdict i f hi ((hfile i).symm.trans hf), fun i => by rw [hslot]; exact h.errors i⟩

/-- The files stay in order where the engine stays. -/
theorem congr_engine (h : s.FilesOk o) (hengine : t.engine = s.engine) : t.FilesOk o :=
  h.congr (by rw [hengine]) fun i => by unfold State.slot; rw [hengine]

/-- The recomputation of the one slot puts the files in order (R6, R146). -/
theorem recompute {i : SlotId} (h : s.FilesOk (some i)) : (s.recompute i).FilesOk none where
  admissions := by rw [(State.recompute_index s i).2.2.1]; exact h.admissions
  fields j f hf := by
    rw [State.file_recompute_judged] at hf
    split at hf
    · obtain ⟨f', hf', rfl⟩ := Option.map_eq_some_iff.mp hf
      obtain ⟨h1, h2, h3, h4, h5, h6, h7⟩ := h.fields j f' hf'
      exact ⟨h1, h2, h3, h4, h5, h6, h7⟩
    · exact h.fields j f hf
  verdict j f _ hf := by
    rw [State.file_recompute_judged] at hf
    split at hf
    · obtain ⟨f', _, rfl⟩ := Option.map_eq_some_iff.mp hf
      rfl
    · next hj => exact h.verdict j f (by simpa using hj) hf
  errors j := by rw [State.errors_recompute]; exact h.errors j

/-- A file with its fields in order may be written where its verdict is recomputed after. -/
theorem setFile {i : SlotId} (h : s.FilesOk (some i)) {f : FileRec} (hf : f.fieldsOk) :
    (s.setFile i f).FilesOk (some i) where
  admissions := h.admissions
  fields j f' hf' := by
    rw [State.file_setFile] at hf'
    split at hf'
    · cases hf'; exact hf
    · exact h.fields j f' hf'
  verdict j f' hj hf' := by
    rw [State.file_setFile, if_neg fun hij => hj (congrArg some hij)] at hf'
    exact h.verdict j f' hj hf'
  errors j := by rw [State.errors_setFile]; exact h.errors j

/-- A stage record in order may be written where the verdict of its file is recomputed after. -/
theorem modStage {hd : Handle} (h : s.FilesOk (some hd.slot)) (x : Stage) {g : StageRecord → StageRecord}
    (hg : ∀ r : StageRecord, r.fieldsOk x → (g r).fieldsOk x) : (s.modStage hd x g).FilesOk (some hd.slot) := by
  unfold State.modStage
  split
  · next f hf => exact h.setFile ((h.fields _ f (State.fileAt_eq.mp hf).2).modStage x fun _ _ => hg _)
  · exact h

/-- An engine-side end puts the file of its channel in order (R62). -/
theorem engineEnd {i : SlotId} (h : s.FilesOk (some i)) (c : ChannelId) (cause : Cause) {b : Binding}
    (hb : (s.chan c).binding = some b) (hslot : b.handle.slot = i) : (s.engineEnd c cause).FilesOk none := by
  subst hslot
  unfold State.engineEnd
  rw [hb]
  have hended : ((s.dropPosting c).modStage b.handle b.stage fun r =>
      r.applyEnd (s.retryLimit b.handle b.stage) ⟨.cutShort, cause, none⟩).FilesOk (some b.handle.slot) :=
    (h.congr_engine (t := s.dropPosting c) rfl).modStage b.stage fun r hr =>
      ⟨hr.1, fun e he => by cases he; exact StageEnd.okFor_cutShort _ _⟩
  exact (hended.congr_engine (by simp)).recompute

/-- An engine-side end keeps the files in order (R62). -/
theorem engineEnd_kept (h : s.FilesOk none) (c : ChannelId) (cause : Cause) : (s.engineEnd c cause).FilesOk none := by
  rcases hb : (s.chan c).binding with _ | b
  · have hnone : s.engineEnd c cause = s := by unfold State.engineEnd; rw [hb]
    exact hnone.symm ▸ h
  · exact (h.unjudged _).engineEnd c cause hb rfl

/-- The words written back keep the files in order (R179). -/
theorem setErrors (h : s.FilesOk o) (i : SlotId) {errs : RecordErrors} (herrs : RecordErrors.inOrder errs) :
    (s.setErrors i errs).FilesOk o where
  admissions := h.admissions
  fields j f hf := h.fields j f (by simpa using hf)
  verdict j f hj hf := h.verdict j f hj (by simpa using hf)
  errors j := by
    rw [State.slot_setErrors]
    split
    · exact herrs
    · exact h.errors j

/-- The damage of a live file keeps the files in order (R5, R180). -/
theorem damage (h : s.FilesOk none) (i : SlotId) {f : FileRec} (hf : s.file i = some f) :
    (s.damage i f).FilesOk none := by
  have hlost : ((s.setErrors i []).setFile i { f with records := none }).FilesOk (some i) :=
    (((h.unjudged (some i)).setErrors i List.Pairwise.nil)).setFile (h.fields i f hf).damaged
  rw [State.damage_eq]
  refine recompute ?_
  unfold State.freed
  split
  · next c hc =>
    obtain ⟨b, hb, hhandle⟩ := State.boundTo_some hc
    exact (hlost.engineEnd c .damaged hb (by rw [hhandle]; rfl)).unjudged _
  · exact hlost

/-- The read of a file keeps the files in order (R14). -/
theorem readFile (h : s.FilesOk none) (item : CaptureItem) (i : SlotId) : (s.readFile item i).FilesOk none :=
  readFile_kept (P := (·.FilesOk none)) (fun _ _ _ _ h => h.congr_engine (by simp))
    (fun _ i _ hsub h => h.setErrors i ((h.errors i).sublist hsub)) (fun _ i _ hf h => h.damage i hf) h item i

/-- A posting applied keeps the files in order where its effect does (R54, R60). -/
theorem applyPosting (h : s.FilesOk none) (item : CaptureItem) {p : Posting} {effect : State → State}
    (heffect : ∀ u : State, u.FilesOk none → (effect u).FilesOk none) : (s.applyPosting item p effect).FilesOk none :=
  applyPosting_kept (P := (·.FilesOk none)) (fun _ h => h.congr_engine rfl) (fun _ _ h => h.congr_engine (by simp))
    (fun _ item i h => h.readFile item i) heffect h item

/-- A retirement keeps the other files in order (R147). -/
theorem retire (h : s.FilesOk none) (i : SlotId) (f : FileRec) : (s.retire i f).FilesOk none := by
  have hslot (j) : (s.retire i f).slot j = if i = j then ⟨(s.slot i).gen + 1, none, []⟩ else s.slot j :=
    State.slot_setSlot _ _ _ _
  have hfile {j f'} (hf' : (s.retire i f).file j = some f') : s.file j = some f' := by
    rw [State.file, hslot] at hf'
    split at hf'
    · cases hf'
    · exact hf'
  refine ⟨h.admissions, fun j f' hf' => h.fields j f' (hfile hf'), fun j f' hj hf' => h.verdict j f' hj (hfile hf'),
    fun j => ?_⟩
  rw [hslot]
  split
  · exact List.Pairwise.nil
  · exact h.errors j

/-- A file opened has its fields in order (R13, R16). -/
theorem openFile (h : s.FilesOk none) (i : SlotId) {serial : Serial} (v : Word) (b : BankId)
    (hserial : serial.all isSerialByte = true) : (s.openFile i serial v b).FilesOk (some i) := by
  have horder : 1 ≤ nextOrder s.engine.admissions ∧ nextOrder s.engine.admissions ≤ 65535 := by
    unfold nextOrder
    split <;> omega
  have hslot (j) : (s.openFile i serial v b).slot j = if i = j then ⟨(s.slot i).gen,
      some ⟨serial, v, nextOrder s.engine.admissions, b, [], .pending, some (.fresh (s.bank b).contents)⟩, []⟩
      else s.slot j := State.slot_setSlot _ _ _ _
  have hfresh (x : Stage) : ((StageRecords.fresh (s.bank b).contents).get x).fieldsOk x := by
    cases x <;> exact ⟨Nat.zero_le _, nofun⟩
  refine ⟨horder.2, fun j f hf => ?_, fun j f hj hf => ?_, fun j => ?_⟩
  · rw [State.file, hslot] at hf
    split at hf
    · cases hf
      exact ⟨hserial, horder.1, horder.2, Nat.zero_le _, List.nodup_nil, fun r hr => absurd hr List.not_mem_nil,
        fun rs hrs x => by cases hrs; exact hfresh x⟩
    · exact h.fields j f hf
  · rw [State.file, hslot, if_neg fun hij => hj (congrArg some hij)] at hf
    exact h.verdict j f nofun hf
  · rw [hslot]
    split
    · exact List.Pairwise.nil
    · exact h.errors j

/-- The files are in order at power-on (R170). -/
theorem powerOn (pending : List Instr) (low : Bool) : (State.powerOn pending low).FilesOk none := by
  have hslot (i) : (State.powerOn pending low).slot i = ⟨0, none, []⟩ := by simp [State.powerOn, State.slot]
  have hfile (i) : (State.powerOn pending low).file i = none := by rw [State.file, hslot]
  refine ⟨Nat.zero_le _, fun i f hf => ?_, fun i f _ hf => ?_, fun i => ?_⟩
  · rw [hfile] at hf; cases hf
  · rw [hfile] at hf; cases hf
  · rw [hslot]; exact List.Pairwise.nil

/-- Every move keeps the files in order, where the channels and postings are. -/
theorem move (hm : Move s t) (hchannels : ChannelInv s) (h : s.FilesOk none) : t.FilesOk none := by
  cases hm with
  | disturb ds =>
    exact ⟨h.admissions, fun j f hf => h.fields j f (by simpa using hf),
      fun j f hj hf => h.verdict j f hj (by simpa using hf),
      fun j => by rw [State.slot_disturb]; exact inOrder_disturb (h.errors j) _⟩
  | errors i errs hsub => exact h.setErrors i ((h.errors i).sublist hsub)
  | damage i f hf => exact h.damage i hf
  | engineEnd c cause => exact h.engineEnd_kept c cause
  | applyEnd item p rest e hp hk =>
    have hok : e.okFor p.stage = true := by
      have hposting := (((channelInv_iff s).mp hchannels).ending p (by rw [hp]; exact List.mem_cons_self)).2
      rwa [Posting.ok, hk] at hposting
    refine h.applyPosting item fun u hu => ?_
    have hended : (u.modStage p.handle p.stage fun r =>
        r.applyEnd (u.retryLimit p.handle p.stage) e).FilesOk (some p.handle.slot) :=
      (hu.unjudged _).modStage p.stage fun r hr => ⟨hr.1, fun e' he' => by cases he'; exact hok⟩
    exact (hended.congr_engine (by simp)).recompute
  | applyLapse item p rest =>
    refine h.applyPosting item fun u hu => ?_
    have hlapsed : (u.modStage p.handle p.stage StageRecord.lapse).FilesOk (some p.handle.slot) :=
      (hu.unjudged _).modStage p.stage fun r hr => hr
    have hjudged : ((u.modStage p.handle p.stage StageRecord.lapse).restChannel p.channel).FilesOk
        (some p.handle.slot) := hlapsed.congr_engine (by simp)
    exact hjudged.recompute.congr_engine (by simp [State.applyLapse])
  | release i f => exact h.retire i f
  | forceRetire i f =>
    exact (freed_kept (P := (·.FilesOk none)) (fun _ c x h => h.engineEnd_kept c x) h i .forced).retire i f
  | admitFile i serial v b hserial => exact (h.openFile i v b hserial).recompute
  | holds i f holds hf hok =>
    have hfields := h.fields i f hf
    obtain ⟨hlength, hnodup, hrange⟩ := hok ((FileRec.ok_iff f).mpr ⟨hfields, h.verdict i f nofun hf⟩)
    exact ((h.unjudged _).setFile (f := { f with holds := holds }) ⟨hfields.serial, hfields.order_pos, hfields.order_le,
      hlength, hnodup, hrange, hfields.stage⟩).recompute
  | reopen i f rs x hf hrs _ hlimit =>
    refine ((h.unjudged _).setFile ((h.fields i f hf).modStage x fun rs' hrs' hr => ?_)).recompute
    cases hrs.symm.trans hrs'
    exact ⟨hlimit, hr.2⟩
  | claim i f rs x c hf =>
    exact (((h.unjudged _).setFile ((h.fields i f hf).modStage x fun _ _ hr => hr)).congr_engine
      (t := s.bindChannel i f x c) rfl).recompute
  | start c b =>
    unfold State.startStage
    set u := s.setChan c ⟨.running, some b, none, some ((s.bankOf c).contents.stageLimitMs b.stage)⟩ with hu
    have hstarted : (u.modStage b.handle b.stage StageRecord.start).FilesOk (some b.handle.slot) :=
      ((h.congr_engine (t := u) rfl).unjudged _).modStage b.stage fun r hr => hr
    exact (hstarted.congr_engine (State.startAnalyzer_frame _ c).1).recompute
  | powerOn low => exact powerOn s.pending low
  | post | monitor | leak | leakEvaluates => exact h.congr_engine (by simp)
  | ports | settings | bank | cursor | windows | input | noise | noiseEvaluates | settle =>
    exact h.congr rfl fun _ => rfl

end State.FilesOk

/-- Settles O57: every move keeps the files' own fields in order, the channels and postings in order. -/
theorem everyStepKeepsTheFilesOwnFieldsInOrder : Obligations.EveryStepKeepsTheFilesOwnFieldsInOrder := by
  intro s t hchannels h hstep
  refine (kept_by_step (P := fun u => ChannelInv u ∧ FileInv u) (fun hm hu => ⟨hu.1.move hm, ?_⟩)
    (fun u rest hu => ⟨hu.1.congr rfl rfl rfl rfl rfl rfl, hu.2⟩) ⟨hchannels, h⟩ hstep).2
  exact (fileInv_iff _).mpr (((fileInv_iff _).mp hu.2).move hm hu.1)

end Sys2Proof.Machine
end

section
/-! What every step keeps: the file table, its index, its line order and the user counts of the banks (R9 to R12,
R27). -/

namespace Sys2Proof.Machine

/-! ### What the file table is -/

/-- What the condition of the file table speaks of: the serial index, the line order list, each live file's serial and
bank, and each bank's user count. -/
structure FileTable where
  index : List (Serial × SlotId)
  lineOrder : List SlotId
  card : SlotId → Option (Serial × BankId)
  users : BankId → Nat

/-- A file's serial and bank, which it keeps while it is live. -/
def FileRec.card (f : FileRec) : Serial × BankId := (f.serial, f.bank)

/-- The file table of a state. -/
def State.fileTable (s : State) : FileTable :=
  ⟨s.engine.index, s.engine.lineOrder, fun i => (s.file i).map FileRec.card, fun b => (s.bank b).users⟩

/-- The file table stays where index, line order, the files' serials and banks, and the user counts stay. -/
theorem State.fileTable_congr {s t : State} (hindex : t.engine.index = s.engine.index)
    (horder : t.engine.lineOrder = s.engine.lineOrder)
    (hcard : ∀ i, (t.file i).map FileRec.card = (s.file i).map FileRec.card)
    (husers : ∀ b, (t.bank b).users = (s.bank b).users) : t.fileTable = s.fileTable := by
  unfold State.fileTable
  rw [hindex, horder, funext hcard, funext husers]

/-- The file table stays where engine and banks stay. -/
theorem State.fileTable_of_engine {s t : State} (hengine : t.engine = s.engine)
    (hbanks : t.store.banks = s.store.banks) : t.fileTable = s.fileTable := by
  unfold State.fileTable State.file State.slot State.bank
  rw [hengine, hbanks]

/-- A file written with its serial and bank keeps the file table. -/
theorem State.fileTable_setFile (s : State) {i : SlotId} {f g : FileRec} (hf : s.file i = some f)
    (hcard : g.card = f.card) : (s.setFile i g).fileTable = s.fileTable := by
  refine State.fileTable_congr rfl rfl (fun j => ?_) fun b => rfl
  rw [State.file_setFile]
  split
  · next hj => subst hj; rw [hf, Option.map_some, Option.map_some, hcard]
  · rfl

/-- Other words standing in error keep the file table (R178). -/
theorem State.fileTable_setErrors (s : State) (i : SlotId) (errs : RecordErrors) :
    (s.setErrors i errs).fileTable = s.fileTable :=
  State.fileTable_congr rfl rfl (fun j => by rw [State.file_setErrors]) fun _ => rfl

/-- A recomputation keeps the file table. -/
theorem State.fileTable_recompute (s : State) (i : SlotId) : (s.recompute i).fileTable = s.fileTable := by
  refine State.fileTable_congr (State.recompute_index s i).1 (State.recompute_index s i).2.1 (fun j => ?_)
    fun b => by simp [State.bank]
  rw [State.file_recompute_judged]
  split
  · cases s.file j <;> rfl
  · rfl

/-- A stage record changed keeps the file table. -/
theorem State.fileTable_modStage (s : State) (h : Handle) (t : Stage) (g : StageRecord → StageRecord) :
    (s.modStage h t g).fileTable = s.fileTable := by
  unfold State.modStage
  split
  · next f hf => exact s.fileTable_setFile (State.fileAt_eq.mp hf).2 rfl
  · rfl

/-- A stage record changed and a channel freed keep the file table (R54, R60, R62). -/
theorem State.fileTable_effect (s : State) (h : Handle) (t : Stage) (g : StageRecord → StageRecord) (c : ChannelId) :
    ((s.modStage h t g).restChannel c).fileTable = s.fileTable :=
  (State.fileTable_of_engine (State.restChannel_engine _ _) (by simp)).trans (s.fileTable_modStage h t g)

/-- An engine-side end keeps the file table (R62). -/
theorem State.fileTable_engineEnd (s : State) (c : ChannelId) (cause : Cause) :
    (s.engineEnd c cause).fileTable = s.fileTable := by
  unfold State.engineEnd
  split
  · next b _ =>
    dsimp only
    rw [State.fileTable_recompute]
    exact (State.fileTable_of_engine (State.directEnd_engine _ _ _ _ _) (by simp)).trans
      (State.fileTable_effect (s.dropPosting c) _ _ _ c)
  · rfl

/-- The damage of a live file keeps the file table (R180). -/
theorem State.fileTable_damage (s : State) {i : SlotId} {f : FileRec} (hf : s.file i = some f) :
    (s.damage i f).fileTable = s.fileTable := by
  have hlost : ((s.setErrors i []).setFile i { f with records := none }).fileTable = (s.setErrors i []).fileTable :=
    State.fileTable_setFile _ (f := f) (by simpa using hf) rfl
  rw [State.damage_eq, State.fileTable_recompute]
  refine freed_kept (P := fun u => u.fileTable = s.fileTable)
    (fun u c x hu => (u.fileTable_engineEnd c x).trans hu) (hlost.trans ?_) i .damaged
  exact s.fileTable_setErrors i []

/-- The read of a file keeps the file table (R14). -/
theorem State.fileTable_readFile (s : State) (item : CaptureItem) (i : SlotId) :
    (s.readFile item i).fileTable = s.fileTable :=
  readFile_kept (P := fun u => u.fileTable = s.fileTable)
    (fun _ _ _ _ hu => (State.fileTable_of_engine (by simp) (by simp)).trans hu)
    (fun u i errs _ hu => (u.fileTable_setErrors i errs).trans hu)
    (fun u _ _ hf hu => (u.fileTable_damage hf).trans hu) rfl item i

/-- A posting applied keeps the file table where its effect does (R54, R60). -/
theorem State.fileTable_applyPosting (s : State) (item : CaptureItem) (p : Posting) {effect : State → State}
    (heffect : ∀ u, (effect u).fileTable = u.fileTable) : (s.applyPosting item p effect).fileTable = s.fileTable :=
  applyPosting_kept (P := fun u => u.fileTable = s.fileTable) (fun _ hu => hu)
    (fun _ _ hu => (State.fileTable_of_engine (by simp) (by simp)).trans hu)
    (fun u item i hu => (u.fileTable_readFile item i).trans hu) (fun u hu => (heffect u).trans hu) rfl item

/-! ### The condition of the file table -/

/-- The slots whose live file is bound to a bank. -/
def FileTable.boundSlots (x : FileTable) (b : BankId) : Finset SlotId :=
  Finset.univ.filter fun i => (x.card i).map (·.2) = some b

/-- A slot counts for a bank where its live file is bound to it. -/
theorem FileTable.mem_boundSlots (x : FileTable) (b : BankId) (i : SlotId) :
    i ∈ x.boundSlots b ↔ (x.card i).map (·.2) = some b := by
  simp [FileTable.boundSlots]

/-- The file table is in order (R9 to R12, R27). -/
structure FileTable.ok (x : FileTable) : Prop where
  serials : (x.index.map (·.1)).Nodup
  indexed : ∀ e ∈ x.index, (x.card e.2).map (·.1) = some e.1
  listed : ∀ i k, x.card i = some k → (k.1, i) ∈ x.index
  once : x.lineOrder.Nodup
  line : ∀ i, i ∈ x.lineOrder ↔ (x.card i).isSome = true
  users : ∀ b, x.users b = (x.boundSlots b).card

/-- The files bound to a bank are counted over the slots. -/
theorem State.boundFiles_eq (s : State) (b : BankId) : s.boundFiles b = (s.fileTable.boundSlots b).card := by
  have hbank (i : SlotId) : (s.fileTable.card i).map (·.2) = (s.file i).map (·.bank) := by
    simp only [State.fileTable]
    cases s.file i <;> rfl
  have hset : s.fileTable.boundSlots b =
      (allSlots.filter fun i => (s.file i).map (·.bank) == some b).toFinset := by
    ext i
    simp [FileTable.boundSlots, hbank, allSlots]
  have honce : allSlots.Nodup := List.nodup_finRange 48
  rw [hset, List.toFinset_card_of_nodup (honce.filter _), State.boundFiles]

/-- The standing condition of the file table is one of the table alone. -/
theorem fileTableInv_iff (s : State) : FileTableInv s ↔ s.fileTable.ok := by
  have hserial (i : SlotId) : (s.fileTable.card i).map (·.1) = (s.file i).map (·.serial) := by
    simp only [State.fileTable]
    cases s.file i <;> rfl
  constructor
  · rintro ⟨hserials, hindexed, hlisted, honce, hline, husers⟩
    refine ⟨hserials, fun e he => (hserial e.2).trans (hindexed e he), fun i k hk => ?_, honce, fun i => ?_,
      fun b => (husers b).trans (s.boundFiles_eq b)⟩
    · obtain ⟨f, hf, rfl⟩ := Option.map_eq_some_iff.mp hk
      exact hlisted i f hf
    · exact (hline i).trans (by simp [State.fileTable])
  · intro h
    refine ⟨h.serials, fun e he => (hserial e.2).symm.trans (h.indexed e he), fun i f hf => ?_, h.once, fun i => ?_,
      fun b => (h.users b).trans (s.boundFiles_eq b).symm⟩
    · exact h.listed i f.card (by simp only [State.fileTable]; rw [hf]; rfl)
    · exact (h.line i).trans (by simp [State.fileTable])

/-- The file table with a file out: index, line order and user count one entry less (R147). -/
def FileTable.retire (x : FileTable) (i : SlotId) (serial : Serial) (bank : BankId) : FileTable where
  index := x.index.filter fun e => e.1 != serial
  lineOrder := x.lineOrder.filter fun j => j != i
  card j := if i = j then none else x.card j
  users b := if bank = b then x.users bank - 1 else x.users b

/-- The file table with a file in: index, line order and user count one entry more (R16). -/
def FileTable.enter (x : FileTable) (i : SlotId) (serial : Serial) (bank : BankId) : FileTable where
  index := x.index ++ [(serial, i)]
  lineOrder := x.lineOrder ++ [i]
  card j := if i = j then some (serial, bank) else x.card j
  users b := if bank = b then x.users bank + 1 else x.users b

/-- A retirement takes the file out of the table (R147). -/
theorem State.fileTable_retire (s : State) (i : SlotId) (f : FileRec) :
    (s.retire i f).fileTable = s.fileTable.retire i f.serial f.bank := by
  have hcard (j) : ((s.retire i f).file j).map FileRec.card = if i = j then none else (s.file j).map FileRec.card := by
    have hslot : (s.retire i f).slot j = if i = j then ⟨(s.slot i).gen + 1, none, []⟩ else s.slot j :=
      State.slot_setSlot _ _ _ _
    rw [State.file, hslot]
    split <;> rfl
  have husers (b) : ((s.retire i f).bank b).users =
      if f.bank = b then (s.bank f.bank).users - 1 else (s.bank b).users := by
    have hbank : (s.retire i f).bank b =
        if f.bank = b then { s.bank f.bank with users := (s.bank f.bank).users - 1 } else s.bank b :=
      State.bank_setBank _ _ _ _
    rw [hbank]
    split <;> rfl
  unfold State.fileTable FileTable.retire
  rw [funext hcard, funext husers]
  rfl

/-- An opened file enters the table (R16). -/
theorem State.fileTable_openFile (s : State) (i : SlotId) (serial : Serial) (v : Word) (bank : BankId) :
    (s.openFile i serial v bank).fileTable = s.fileTable.enter i serial bank := by
  have hcard (j) : ((s.openFile i serial v bank).file j).map FileRec.card =
      if i = j then some (serial, bank) else (s.file j).map FileRec.card := by
    have hslot : (s.openFile i serial v bank).slot j = if i = j then ⟨(s.slot i).gen, some ⟨serial, v,
        nextOrder s.engine.admissions, bank, [], .pending, some (.fresh (s.bank bank).contents)⟩, []⟩ else s.slot j :=
      State.slot_setSlot _ _ _ _
    rw [State.file, hslot]
    split <;> rfl
  have husers (b) : ((s.openFile i serial v bank).bank b).users =
      if bank = b then (s.bank bank).users + 1 else (s.bank b).users := by
    have hbank : (s.openFile i serial v bank).bank b =
        if bank = b then { s.bank bank with users := (s.bank bank).users + 1 } else s.bank b :=
      State.bank_setBank _ _ _ _
    rw [hbank]
    split <;> rfl
  unfold State.fileTable FileTable.enter
  rw [funext hcard, funext husers]
  rfl

/-- A live serial stands in the index with its slot alone (R9). -/
theorem FileTable.ok.slot_eq {x : FileTable} (h : x.ok) {serial : Serial} {i j : SlotId} (hi : (serial, i) ∈ x.index)
    (hj : (serial, j) ∈ x.index) : i = j :=
  congrArg Prod.snd (List.inj_on_of_nodup_map h.serials hi hj rfl)

/-- The file table stays in order when a live file leaves it (R147). -/
theorem FileTable.ok.retire {x : FileTable} (h : x.ok) {i : SlotId} {serial : Serial} {bank : BankId}
    (hi : x.card i = some (serial, bank)) : (x.retire i serial bank).ok where
  serials := h.serials.sublist (List.filter_sublist.map _)
  indexed e he := by
    obtain ⟨he, hne⟩ := List.mem_filter.mp he
    have hcard := h.indexed e he
    have hslot : i ≠ e.2 := by
      rintro rfl
      rw [hi] at hcard
      exact bne_iff_ne.mp hne (Option.some.inj hcard).symm
    exact (congrArg _ (if_neg hslot)).trans hcard
  listed j k hk := by
    simp only [FileTable.retire] at hk ⊢
    split at hk
    · cases hk
    · next hij =>
      refine List.mem_filter.mpr ⟨h.listed j k hk, bne_iff_ne.mpr ?_⟩
      rintro rfl
      exact hij (h.slot_eq (h.listed i _ hi) (h.listed j k hk))
  once := h.once.filter _
  line j := by
    simp only [FileTable.retire, List.mem_filter, bne_iff_ne]
    by_cases hij : i = j
    · simp [hij]
    · simp [hij, h.line, Ne.symm hij]
  users b := by
    have hbound : (x.retire i serial bank).boundSlots b = (x.boundSlots b).erase i := by
      ext j
      rw [Finset.mem_erase, FileTable.mem_boundSlots, FileTable.mem_boundSlots]
      by_cases hij : i = j
      · simp [FileTable.retire, hij]
      · simp [FileTable.retire, hij, Ne.symm hij]
    rw [hbound]
    simp only [FileTable.retire]
    split
    · next hb =>
      subst hb
      rw [Finset.card_erase_of_mem (by simp [FileTable.mem_boundSlots, hi]), h.users]
    · next hb => rw [Finset.erase_eq_of_notMem (by simp [FileTable.mem_boundSlots, hi, hb]), h.users]

/-- The file table stays in order when a file with a new serial enters a free slot (R16). -/
theorem FileTable.ok.enter {x : FileTable} (h : x.ok) {i : SlotId} {serial : Serial} {bank : BankId}
    (hfree : x.card i = none) (hnew : ∀ j, (serial, j) ∉ x.index) : (x.enter i serial bank).ok where
  serials := by
    simp only [FileTable.enter, List.map_append, List.map_singleton, List.nodup_append]
    refine ⟨h.serials, List.nodup_singleton _, fun a ha b hb => ?_⟩
    rw [List.mem_singleton.mp hb]
    obtain ⟨e, he, rfl⟩ := List.mem_map.mp ha
    rintro rfl
    exact hnew e.2 he
  indexed e he := by
    simp only [FileTable.enter] at he ⊢
    rcases List.mem_append.mp he with he | he
    · have hslot : i ≠ e.2 := by
        intro hslot
        have hcard := h.indexed e he
        rw [← hslot, hfree] at hcard
        cases hcard
      rw [if_neg hslot]
      exact h.indexed e he
    · rw [List.mem_singleton.mp he, if_pos rfl]
      rfl
  listed j k hk := by
    simp only [FileTable.enter] at hk ⊢
    split at hk
    · next hij => subst hij; cases hk; simp
    · exact List.mem_append_left _ (h.listed j k hk)
  once := by
    simp only [FileTable.enter, List.nodup_append]
    refine ⟨h.once, List.nodup_singleton _, fun a ha b hb => ?_⟩
    rw [List.mem_singleton.mp hb]
    rintro rfl
    have hlive := (h.line a).mp ha
    rw [hfree] at hlive
    cases hlive
  line j := by
    simp only [FileTable.enter, List.mem_append, List.mem_singleton]
    by_cases hij : i = j
    · simp [hij]
    · simp [hij, h.line, Ne.symm hij]
  users b := by
    have hout : i ∉ x.boundSlots b := by simp [FileTable.mem_boundSlots, hfree]
    have hbound : (x.enter i serial bank).boundSlots b =
        if bank = b then insert i (x.boundSlots b) else x.boundSlots b := by
      ext j
      by_cases hij : i = j
      · subst hij
        by_cases hb : bank = b <;> simp [FileTable.mem_boundSlots, FileTable.enter, hb, hfree]
      · by_cases hb : bank = b <;> simp [FileTable.mem_boundSlots, FileTable.enter, hij, hb, Ne.symm hij]
    rw [hbound]
    simp only [FileTable.enter]
    split
    · next hb => subst hb; rw [Finset.card_insert_of_notMem hout, h.users]
    · exact h.users b

/-- The file table is in order at power-on (R170). -/
theorem fileTable_powerOn_ok (pending : List Instr) (low : Bool) : (State.powerOn pending low).fileTable.ok := by
  have hcard (i) : (State.powerOn pending low).fileTable.card i = none := by
    simp [State.fileTable, State.powerOn, State.file, State.slot]
  have husers (b) : (State.powerOn pending low).fileTable.users b = 0 := by
    simp [State.fileTable, State.powerOn, State.bank, Bank.empty]
  refine ⟨List.nodup_nil, fun e he => ?_, fun i k hk => ?_, List.nodup_nil, fun i => ?_, fun b => ?_⟩
  · exact absurd he List.not_mem_nil
  · rw [hcard] at hk; cases hk
  · rw [hcard]
    exact ⟨fun hi => absurd hi List.not_mem_nil, nofun⟩
  · simp [husers, FileTable.boundSlots, hcard]

/-- Every move keeps the file table in order, where the store is. -/
theorem FileTableInv.move {s t : State} (hm : Move s t) (hstore : StoreInv s) (h : FileTableInv s) :
    FileTableInv t := by
  rw [fileTableInv_iff] at h ⊢
  have hretire {u : State} (hu : u.fileTable = s.fileTable) {i : SlotId} {f : FileRec} (hf : u.file i = some f) :
      (u.retire i f).fileTable.ok := by
    rw [State.fileTable_retire]
    exact (hu ▸ h).retire (by simp only [State.fileTable]; rw [hf]; rfl)
  have hkept {u : State} (hu : u.fileTable = s.fileTable) : u.fileTable.ok := hu ▸ h
  cases hm with
  | damage i f hf => exact hkept (s.fileTable_damage hf)
  | engineEnd c cause => exact hkept (s.fileTable_engineEnd c cause)
  | applyEnd item p rest e =>
    exact hkept (s.fileTable_applyPosting item p fun u =>
      (State.fileTable_recompute _ _).trans (u.fileTable_effect p.handle p.stage _ p.channel))
  | applyLapse item p rest =>
    refine hkept (s.fileTable_applyPosting item p fun u => ?_)
    refine (State.fileTable_of_engine (State.noticeLapse_engine _ _ _) (by simp)).trans ?_
    exact (State.fileTable_recompute _ _).trans (u.fileTable_effect p.handle p.stage _ p.channel)
  | release i f hf => exact hretire rfl hf
  | forceRetire i f hf =>
    exact hretire (freed_kept (P := fun u => u.fileTable = s.fileTable)
      (fun u c x hu => (u.fileTable_engineEnd c x).trans hu) rfl i .forced) hf
  | admitFile i serial v b hserial hnew hfree =>
    rw [State.fileTable_recompute, State.fileTable_openFile]
    refine h.enter (by simp [State.fileTable, hfree]) fun j hj => ?_
    rw [State.find, Option.map_eq_none_iff, List.find?_eq_none] at hnew
    exact hnew _ hj (by simp)
  | holds i f holds hf => exact hkept ((State.fileTable_recompute _ _).trans (s.fileTable_setFile hf rfl))
  | reopen i f rs x hf => exact hkept ((State.fileTable_recompute _ _).trans (s.fileTable_setFile hf rfl))
  | claim i f rs x c hf => exact hkept ((State.fileTable_recompute _ _).trans (s.fileTable_setFile hf rfl))
  | start c b =>
    refine hkept ((State.fileTable_recompute _ _).trans ?_)
    refine (State.fileTable_of_engine (State.startAnalyzer_frame _ c).1 ?_).trans (State.fileTable_modStage _ _ _ _)
    rw [(State.startAnalyzer_frame _ c).2.2.2.1]
  | bank b k hok =>
    obtain ⟨_, hbefore, hafter⟩ := hok (hstore.1 b)
    refine hkept (State.fileTable_congr rfl rfl (fun _ => rfl) fun d => ?_)
    rw [State.bank_setBank]
    split
    · next hd => subst hd; rw [hbefore, hafter]
    · rfl
  | disturb ds => exact hkept (State.fileTable_congr rfl rfl (fun j => by rw [State.file_disturb]) fun _ => rfl)
  | errors i errs => exact hkept (s.fileTable_setErrors i errs)
  | powerOn low => exact fileTable_powerOn_ok s.pending low
  | post | monitor | leak | leakEvaluates => exact hkept (State.fileTable_of_engine (by simp) (by simp))
  | ports | settings | cursor | windows | input | noise | noiseEvaluates | settle => exact hkept rfl

/-- Settles O56: every move keeps the file table in order, the store in order. -/
theorem everyStepKeepsTheFileTableInOrder : Obligations.EveryStepKeepsTheFileTableInOrder := by
  intro s t hstore h hstep
  exact (kept_by_step (P := fun u => StoreInv u ∧ FileTableInv u) (fun hm hu => ⟨hu.1.move hm, hu.2.move hm hu.1⟩)
    (fun u rest hu => hu) ⟨hstore, h⟩ hstep).2

end Sys2Proof.Machine
end

section
/-! What every step keeps: the attempts of the stages within the retry limits of their banks (R7, R32, R55, R60). -/

namespace Sys2Proof.Machine

/-! ### The stage records with the contents that govern them -/

/-- The stage records of a slot's live file with the contents of the bank it is bound to. -/
def State.staged (s : State) (i : SlotId) : Option (Contents × StageRecords) :=
  (s.file i).bind fun f => f.records.map fun rs => ((s.bank f.bank).contents, rs)

/-- The stage records of a live file that is not damaged. -/
theorem State.staged_eq_some {s : State} {i : SlotId} {c : Contents} {rs : StageRecords} :
    s.staged i = some (c, rs) ↔ ∃ f, s.file i = some f ∧ f.records = some rs ∧ (s.bank f.bank).contents = c := by
  constructor
  · intro h
    obtain ⟨f, hf, hrs⟩ := Option.bind_eq_some_iff.mp h
    obtain ⟨rs', hrs', hpair⟩ := Option.map_eq_some_iff.mp hrs
    cases hpair
    exact ⟨f, hf, hrs', rfl⟩
  · rintro ⟨f, hf, hrs, rfl⟩
    rw [State.staged, hf, Option.bind_some, hrs]
    rfl

/-- What is staged brings its stage records. -/
theorem State.records_of_staged {s : State} {i : SlotId} {c : Contents} {rs : StageRecords}
    (h : s.staged i = some (c, rs)) : s.records i = some rs := by
  obtain ⟨f, hf, hrs, _⟩ := State.staged_eq_some.mp h
  exact (State.records_of_file hf).trans hrs

/-- Stage records stay with their contents where the file stays and the contents of its bank. -/
theorem State.staged_congr {s t : State} {i : SlotId} (hfile : t.file i = s.file i)
    (hbank : ∀ f, s.file i = some f → (t.bank f.bank).contents = (s.bank f.bank).contents) :
    t.staged i = s.staged i := by
  unfold State.staged
  rw [hfile]
  cases hf : s.file i with
  | none => rfl
  | some f => rw [Option.bind_some, Option.bind_some, hbank f hf]

/-- Stage records stay with their contents where engine and store stay. -/
theorem State.staged_of_engine {s t : State} (hengine : t.engine = s.engine) (hstore : t.store = s.store) (i : SlotId) :
    t.staged i = s.staged i := by
  unfold State.staged State.file State.slot State.bank
  rw [hengine, hstore]

/-- A file written brings its stage records. -/
theorem State.staged_setFile (s : State) (i : SlotId) (f : FileRec) (j : SlotId) :
    (s.setFile i f).staged j =
      if i = j then f.records.map fun rs => ((s.bank f.bank).contents, rs) else s.staged j := by
  unfold State.staged
  rw [State.file_setFile]
  split <;> rfl

/-- A recomputation keeps stage records and contents (R146). -/
theorem State.staged_recompute (s : State) (i j : SlotId) : (s.recompute i).staged j = s.staged j := by
  have hbank (b) : (s.recompute i).bank b = s.bank b := by simp [State.bank]
  unfold State.staged
  simp only [hbank]
  rw [State.file_recompute]
  split
  · cases s.file j <;> rfl
  · rfl

/-- A stage record changed, the others and the contents kept. -/
theorem State.staged_modStage (s : State) (h : Handle) (t : Stage) (g : StageRecord → StageRecord) (j : SlotId) :
    (s.modStage h t g).staged j =
      if h.slot = j ∧ s.handleOf j = h then (s.staged j).map fun x => (x.1, x.2.set t (g (x.2.get t)))
      else s.staged j := by
  have hbank (b) : (s.modStage h t g).bank b = s.bank b := by simp [State.bank]
  unfold State.staged
  simp only [hbank]
  rw [State.file_modStage]
  split
  · cases s.file j with
    | none => rfl
    | some f =>
      simp only [Option.map_some, Option.bind_some, FileRec.modStage]
      cases f.records <;> rfl
  · rfl

/-- Damage loses the stage records of its file alone (R180). -/
theorem State.staged_damage (s : State) (i : SlotId) (f : FileRec) (j : SlotId) :
    (s.damage i f).staged j = if i = j then none else s.staged j := by
  have hbank (b) : (s.damage i f).bank b = s.bank b := by simp [State.bank]
  unfold State.staged
  simp only [hbank]
  rw [State.file_damage]
  split <;> rfl

/-- The read of a file keeps the stage records or loses them (R14). -/
theorem State.staged_readFile (s : State) (item : CaptureItem) (i j : SlotId) :
    (s.readFile item i).staged j = s.staged j ∨ (s.readFile item i).staged j = none :=
  readFile_kept (P := fun u => u.staged j = s.staged j ∨ u.staged j = none)
    (fun u i item errs hu => by rwa [State.staged_of_engine (s := u) (by simp) (by simp)])
    (fun u i errs _ hu => by rwa [State.staged_congr (s := u) (State.file_setErrors _ _ _ _) fun f _ => rfl])
    (fun u i f _ hu => by
      rw [State.staged_damage]
      split
      · exact .inr rfl
      · exact hu) (.inl rfl) item i

/-! ### The postings after the shared operations -/

/-- An engine-side end makes no posting (R62). -/
theorem State.postings_engineEnd_subset (s : State) (c : ChannelId) (cause : Cause) :
    (s.engineEnd c cause).arbiter.postings ⊆ s.arbiter.postings := by
  rcases hb : (s.chan c).binding with _ | b
  · have hnone : s.engineEnd c cause = s := by unfold State.engineEnd; rw [hb]
    exact hnone.symm ▸ List.Subset.refl _
  · rw [State.postings_engineEnd s c cause b hb]
    exact List.filter_subset_self _

/-- Damage makes no posting (R180). -/
theorem State.postings_damage (s : State) (i : SlotId) (f : FileRec) :
    (s.damage i f).arbiter.postings ⊆ s.arbiter.postings :=
  damage_kept (P := fun u => u.arbiter.postings ⊆ s.arbiter.postings) (fun _ _ _ hu => hu)
    (fun u c x hu => List.Subset.trans (u.postings_engineEnd_subset c x) hu) (fun _ _ hu => by simpa using hu)
    (List.Subset.refl _) i f

/-! ### The attempts -/

/-- The attempts are in order with the postings of a list. -/
structure State.AttemptsOk (s : State) (ps : List Posting) : Prop where
  stage : ∀ i c rs, s.staged i = some (c, rs) → ∀ t, attemptsOk c t (rs.get t)
  lapse : ∀ p ∈ ps, p.kind = .lapse → s.handleOf p.handle.slot = p.handle → ∀ c rs,
    s.staged p.handle.slot = some (c, rs) → (rs.get p.stage).state = .claimed

/-- The standing condition of the attempts. -/
theorem attemptInv_iff (s : State) : AttemptInv s ↔ s.AttemptsOk s.arbiter.postings := by
  constructor
  · rintro ⟨hstage, hlapse⟩
    refine ⟨fun i c rs hrs t => ?_, fun p hp hk hcurrent c rs hrs => ?_⟩ <;>
      obtain ⟨f, hf, hrs', rfl⟩ := State.staged_eq_some.mp hrs
    · exact hstage i f hf rs hrs' t (mem_allStages t)
    · exact hlapse p hp hk f (State.fileAt_eq.mpr ⟨congrArg Handle.gen hcurrent, hf⟩) rs hrs'
  · intro h
    refine ⟨fun i f hf rs hrs t _ => h.stage i _ rs (State.staged_eq_some.mpr ⟨f, hf, hrs, rfl⟩) t,
      fun p hp hk f hf rs hrs => ?_⟩
    obtain ⟨hgen, hfile⟩ := State.fileAt_eq.mp hf
    exact h.lapse p hp hk (by rw [State.handleOf, hgen]) _ rs (State.staged_eq_some.mpr ⟨f, hfile, hrs, rfl⟩)

/-- A bank that passed validation allows an attempt at each stage it requires (R32). -/
theorem Contents.retryLimit_pos {c : Contents} (h : c.firstBad = none) {t : Stage} (ht : c.requires t = true) :
    0 < c.retryLimit t := by
  have hgeneral : generalOk c = true := by
    by_contra hbad
    simp [Contents.firstBad, badOnly, hbad] at h
  simp only [generalOk, Bool.and_eq_true] at hgeneral
  obtain ⟨⟨⟨⟨⟨⟨⟨_, hrunin⟩, hnoise⟩, hleak⟩, _⟩, _⟩, _⟩, _⟩ := hgeneral
  have hstage : generalStageOk c t = true := by
    cases t
    · exact hrunin
    · exact hnoise
    · exact hleak
  simp only [generalStageOk, ht, within, Bool.not_true, Bool.false_or, Bool.and_eq_true, decide_eq_true_eq] at hstage
  exact hstage.1.1

/-- The attempts of an end stay within the limit (R60). -/
theorem attemptsOk_applyEnd {c : Contents} {t : Stage} {r : StageRecord} (h : attemptsOk c t r)
    (hactive : r.state.active = true) (e : StageEnd) : attemptsOk c t (r.applyEnd (c.retryLimit t) e) := by
  obtain ⟨hwaived, hlimit⟩ := h
  have hrequired : c.requires t = true := by
    by_contra hno
    have hstate := hwaived.mpr (by simpa using hno)
    rw [hstate] at hactive
    cases hactive
  obtain ⟨hle, _⟩ := hlimit hrequired
  have hend : stateAfterEnd e.code r.attempts (c.retryLimit t) ≠ .waived ∧
      (stateAfterEnd e.code r.attempts (c.retryLimit t) = .opened ∨
        stateAfterEnd e.code r.attempts (c.retryLimit t) = .claimed → r.attempts < c.retryLimit t) := by
    unfold stateAfterEnd
    split
    · simp
    · split
      · simp
      · simp; omega
    · split
      · simp
      · simp; omega
  exact ⟨iff_of_false hend.1 (by simp [hrequired]), fun _ => ⟨hle, hend.2⟩⟩

/-- The attempts of a stage that lapses stand below the limit (R54). -/
theorem attemptsOk_lapse {c : Contents} {t : Stage} {r : StageRecord} (h : attemptsOk c t r)
    (hclaimed : r.state = .claimed) : attemptsOk c t r.lapse := by
  obtain ⟨hwaived, hlimit⟩ := h
  rw [hclaimed] at hwaived hlimit
  have hrequired : c.requires t = true := by
    by_contra hno
    cases hwaived.mpr (by simpa using hno)
  exact ⟨iff_of_false nofun (by simp [hrequired]), fun hreq => ⟨(hlimit hreq).1, fun _ => (hlimit hreq).2 (.inr rfl)⟩⟩

/-- An attempt of a claimed stage stays within the limit (R55). -/
theorem attemptsOk_start {c : Contents} {t : Stage} {r : StageRecord} (h : attemptsOk c t r)
    (hclaimed : r.state = .claimed) : attemptsOk c t r.start := by
  obtain ⟨hwaived, hlimit⟩ := h
  rw [hclaimed] at hwaived hlimit
  have hrequired : c.requires t = true := by
    by_contra hno
    cases hwaived.mpr (by simpa using hno)
  exact ⟨iff_of_false nofun (by simp [hrequired]), fun hreq => ⟨(hlimit hreq).2 (.inr rfl), fun hopen => by
    rcases hopen with hopen | hopen <;> cases hopen⟩⟩

/-- An open stage that is claimed keeps its attempts below the limit (R50). -/
theorem attemptsOk_claim {c : Contents} {t : Stage} {r : StageRecord} (h : attemptsOk c t r)
    (hopen : r.state = .opened) (ch : Option ChannelId) :
    attemptsOk c t { r with state := .claimed, channel := ch } := by
  obtain ⟨hwaived, hlimit⟩ := h
  rw [hopen] at hwaived hlimit
  have hrequired : c.requires t = true := by
    by_contra hno
    cases hwaived.mpr (by simpa using hno)
  exact ⟨iff_of_false nofun (by simp [hrequired]), fun hreq => ⟨(hlimit hreq).1, fun _ => (hlimit hreq).2 (.inl rfl)⟩⟩

/-- A failed stage opened again has its attempts before it (R24). -/
theorem attemptsOk_reopen {c : Contents} {t : Stage} {r : StageRecord} (h : attemptsOk c t r)
    (hfailed : r.state = .failed) (hpos : c.requires t = true → 0 < c.retryLimit t) : attemptsOk c t r.reopen := by
  obtain ⟨hwaived, _⟩ := h
  rw [hfailed] at hwaived
  have hrequired : c.requires t = true := by
    by_contra hno
    cases hwaived.mpr (by simpa using hno)
  exact ⟨iff_of_false nofun (by simp [hrequired]), fun hreq => ⟨Nat.zero_le _, fun _ => hpos hreq⟩⟩

/-- A fresh stage has its attempts before it (R7, R16). -/
theorem attemptsOk_fresh {c : Contents} (hpos : ∀ t, c.requires t = true → 0 < c.retryLimit t) (t : Stage) :
    attemptsOk c t ((StageRecords.fresh c).get t) := by
  have hget : (StageRecords.fresh c).get t = .fresh (c.requires t) := by cases t <;> rfl
  rw [hget]
  refine ⟨?_, fun hreq => ⟨Nat.zero_le _, fun _ => hpos t hreq⟩⟩
  cases hreq : c.requires t <;> simp [StageRecord.fresh]

namespace State.AttemptsOk

variable {s t : State} {ps : List Posting}

/-- The attempts are in order with fewer postings. -/
theorem mono (h : s.AttemptsOk ps) {qs : List Posting} (hsub : qs ⊆ ps) : s.AttemptsOk qs :=
  ⟨h.stage, fun p hp => h.lapse p (hsub hp)⟩

/-- The attempts stay in order where stage records stay or go. -/
theorem shrink (h : s.AttemptsOk ps) (hgen : ∀ j, t.staged j ≠ none → (t.slot j).gen = (s.slot j).gen)
    (hstaged : ∀ j, t.staged j = s.staged j ∨ t.staged j = none) : t.AttemptsOk ps := by
  have hold {j c rs} (hrs : t.staged j = some (c, rs)) : s.staged j = some (c, rs) :=
    ((hstaged j).resolve_right (by simp [hrs])).symm.trans hrs
  refine ⟨fun i c rs hrs => h.stage i c rs (hold hrs), fun p hp hk hcurrent c rs hrs => ?_⟩
  exact h.lapse p hp hk ((State.handleOf_congr (hgen _ (by simp [hrs]))).symm.trans hcurrent) c rs (hold hrs)

/-- The attempts stay in order where engine and store stay. -/
theorem congr_engine (h : s.AttemptsOk ps) (hengine : t.engine = s.engine) (hstore : t.store = s.store) :
    t.AttemptsOk ps :=
  h.shrink (fun j _ => by unfold State.slot; rw [hengine]) fun j => .inl (State.staged_of_engine hengine hstore j)

/-- The attempts stay in order when one stage record changes to one in order, with no lapse posted of it. -/
theorem setStage (h : s.AttemptsOk ps) {i : SlotId} {c : Contents} {rs : StageRecords} (x : Stage) (r : StageRecord)
    (hold : s.staged i = some (c, rs)) (hgen : ∀ j, (t.slot j).gen = (s.slot j).gen)
    (hset : t.staged i = some (c, rs.set x r)) (hstaged : ∀ j, i ≠ j → t.staged j = s.staged j)
    (hok : attemptsOk c x (rs.get x) → attemptsOk c x r)
    (hlapse : ∀ p ∈ ps, p.kind = .lapse → p.handle = s.handleOf i → p.stage ≠ x) : t.AttemptsOk ps where
  stage j c' rs' hrs' y := by
    by_cases hij : i = j
    · subst hij
      cases hset.symm.trans hrs'
      rw [StageRecords.get_set]
      split
      · next hy => subst hy; exact hok (h.stage i c rs hold x)
      · exact h.stage i c rs hold y
    · exact h.stage j c' rs' ((hstaged j hij).symm.trans hrs') y
  lapse p hp hk hcurrent c' rs' hrs' := by
    have hcurrent' := (State.handleOf_congr (hgen _)).symm.trans hcurrent
    by_cases hij : i = p.handle.slot
    · have hx := hlapse p hp hk (by rw [hij, hcurrent'])
      subst hij
      cases hset.symm.trans hrs'
      rw [StageRecords.get_set, if_neg (Ne.symm hx)]
      exact h.lapse p hp hk hcurrent' c rs hold
    · exact h.lapse p hp hk hcurrent' c' rs' ((hstaged _ hij).symm.trans hrs')

/-- A recomputation keeps the attempts in order (R146). -/
theorem recompute (h : s.AttemptsOk ps) (i : SlotId) : (s.recompute i).AttemptsOk ps :=
  h.shrink (fun j _ => State.gen_recompute s i j) fun j => .inl (s.staged_recompute i j)

/-- The damage of a file keeps the attempts in order (R180). -/
theorem damage (h : s.AttemptsOk ps) (i : SlotId) (f : FileRec) : (s.damage i f).AttemptsOk ps :=
  h.shrink (fun j _ => State.gen_damage s i f j) fun j => by
    rw [State.staged_damage]
    split
    · exact .inr rfl
    · exact .inl rfl

/-- The read of a file keeps the attempts in order (R14). -/
theorem readFile (h : s.AttemptsOk ps) (item : CaptureItem) (i : SlotId) : (s.readFile item i).AttemptsOk ps :=
  h.shrink (fun j _ => State.gen_readFile s item i j) (s.staged_readFile item i)

/-- A bound stage changed, its attempts in order, and its channel freed with its postings keep the attempts in order. -/
theorem unbind (h : s.AttemptsOk ps) (hclaims : s.ClaimsOk) {qs : List Posting} (hchannels : s.ChannelsOk qs)
    {c : ChannelId} {b : Binding} (hb : (s.chan c).binding = some b) {g : StageRecord → StageRecord}
    (hg : ∀ k rs, s.staged b.handle.slot = some (k, rs) → (rs.get b.stage).state.active = true →
      attemptsOk k b.stage (rs.get b.stage) → attemptsOk k b.stage (g (rs.get b.stage)))
    {rest : List Posting} (hps : rest ⊆ ps) (hqs : ∀ p ∈ rest, p ∈ qs ∧ p.channel ≠ c) :
    ((s.modStage b.handle b.stage g).restChannel c).AttemptsOk rest := by
  obtain ⟨hcurrent, rs, hrs, _⟩ := hclaims.bound c b hb
  obtain ⟨f, hf, hrs'⟩ := Option.bind_eq_some_iff.mp hrs
  have hold : s.staged b.handle.slot = some ((s.bank f.bank).contents, rs) :=
    State.staged_eq_some.mpr ⟨f, hf, hrs', rfl⟩
  have hstaged (j) : ((s.modStage b.handle b.stage g).restChannel c).staged j =
      if b.handle.slot = j ∧ s.handleOf j = b.handle then
        (s.staged j).map fun x => (x.1, x.2.set b.stage (g (x.2.get b.stage)))
      else s.staged j :=
    (State.staged_of_engine (State.restChannel_engine _ _) (by simp) j).trans (s.staged_modStage _ _ _ j)
  refine (h.mono hps).setStage b.stage (g (rs.get b.stage)) hold (fun j => by simp)
    (by rw [hstaged, if_pos ⟨rfl, hcurrent⟩, hold]; rfl)
    (fun j hj => by rw [hstaged, if_neg fun hij => hj hij.1])
    (hg _ rs hold (hclaims.active hb hrs).2) fun p hp _ hhandle _ => ?_
  obtain ⟨hmem, hne⟩ := hqs p hp
  refine hne (hclaims.unique (b := ⟨p.handle, p.stage⟩) ?_ hb ?_)
  · rw [(hchannels.ending p hmem).1]
  · exact congrArg Handle.slot (hhandle.trans hcurrent)

/-- An engine-side end keeps the attempts in order (R60, R62). -/
theorem engineEnd (h : s.AttemptsOk s.arbiter.postings) (hclaims : s.ClaimsOk) (hchannels : ChannelInv s)
    (c : ChannelId) (cause : Cause) : (s.engineEnd c cause).AttemptsOk (s.engineEnd c cause).arbiter.postings := by
  rcases hb : (s.chan c).binding with _ | b
  · have hnone : s.engineEnd c cause = s := by unfold State.engineEnd; rw [hb]
    exact hnone.symm ▸ h
  · rw [State.postings_engineEnd s c cause b hb]
    unfold State.engineEnd
    rw [hb]
    have hdropped : (s.dropPosting c).AttemptsOk s.arbiter.postings := h.congr_engine rfl rfl
    have hclaims' : (s.dropPosting c).ClaimsOk := hclaims.congr_chans (fun _ => rfl) (fun _ => rfl) rfl
    have hchannels' : (s.dropPosting c).ChannelsOk s.arbiter.postings :=
      ((channelInv_iff s).mp hchannels).congr rfl rfl rfl rfl rfl
    have hcurrent := (hclaims.bound c b hb).1
    refine recompute (congr_engine (hdropped.unbind hclaims' hchannels' (c := c) (b := b) hb (fun k rs hrs hactive hok => ?_)
      (List.filter_subset_self _) fun p hp => ?_) (State.directEnd_engine _ _ _ _ _) (by simp)) _
    · obtain ⟨f, hf, _, rfl⟩ := State.staged_eq_some.mp hrs
      have hlimit : s.retryLimit b.handle b.stage = (s.bank f.bank).contents.retryLimit b.stage := by
        rw [State.retryLimit, State.fileAt_eq.mpr ⟨congrArg Handle.gen hcurrent, hf⟩]
      rw [hlimit]
      exact attemptsOk_applyEnd hok hactive _
    · obtain ⟨hp, hne⟩ := List.mem_filter.mp hp
      exact ⟨hp, bne_iff_ne.mp hne⟩

/-- The attempts are in order at power-on (R170). -/
theorem powerOn (pending : List Instr) (low : Bool) : (State.powerOn pending low).AttemptsOk [] := by
  have hstaged (i) : (State.powerOn pending low).staged i = none := by
    simp [State.powerOn, State.staged, State.file, State.slot]
  refine ⟨fun i c rs hrs => ?_, fun p hp => absurd hp List.not_mem_nil⟩
  rw [hstaged] at hrs
  cases hrs

/-- The application of the posting at the front keeps the attempts in order where its effect on a channel still ENDING
does (R54, R60). -/
theorem applyPosting (h : s.AttemptsOk s.arbiter.postings) (hclaims : s.ClaimsOk) (hchannels : ChannelInv s)
    (item : CaptureItem) {p : Posting} {rest : List Posting} (hp : s.arbiter.postings = p :: rest)
    {effect : State → State} (harbiter : ∀ u, (effect u).arbiter = u.arbiter)
    (heffect : ∀ u : State, u.AttemptsOk (p :: rest) → u.ClaimsOk → u.ChannelsOk (p :: u.arbiter.postings) →
      u.arbiter.postings ⊆ rest → p.channel ∉ u.arbiter.postings.map (·.channel) →
      (effect u).AttemptsOk u.arbiter.postings) :
    (s.applyPosting item p effect).AttemptsOk (s.applyPosting item p effect).arbiter.postings := by
  obtain ⟨hcurrent, rs, hrs, _⟩ := hclaims.bound _ _ (hchannels.binding_of_posting hp)
  obtain ⟨f, hf, _⟩ := Option.bind_eq_some_iff.mp hrs
  have hlive : s.popPosting.fileAt p.handle = some f := State.fileAt_eq.mpr ⟨congrArg Handle.gen hcurrent, hf⟩
  have hpopped : s.popPosting.ClaimsOk := hclaims.congr_chans (fun _ => rfl) (fun _ => rfl) rfl
  have hrest : s.popPosting.arbiter.postings = rest := by simp [State.popPosting, hp]
  have hread : (s.popPosting.readFile item p.handle.slot).AttemptsOk (p :: rest) :=
    (congr_engine (s := s) (t := s.popPosting) (hp ▸ h) rfl rfl).readFile item _
  have hsub : (s.popPosting.readFile item p.handle.slot).arbiter.postings ⊆ rest :=
    readFile_kept (P := fun u => u.arbiter.postings ⊆ rest) (fun _ _ _ _ hu => by simpa using hu)
      (fun _ _ _ _ hu => hu)
      (fun u i f _ hu => List.Subset.trans (u.postings_damage i f) hu) (hrest ▸ List.Subset.refl _) item _
  have hflight := (State.inFlight_popPosting hchannels hp).readFile item p.handle.slot
  unfold State.applyPosting
  dsimp only
  rw [hlive]
  dsimp only
  split
  · next hending =>
    rw [harbiter]
    exact heffect _ hread (hpopped.readFile item _) (hflight.counts hending) hsub hflight.alone
  · exact hread.mono (List.Subset.trans hsub (List.subset_cons_self _ _))

/-- The stage of the posting applied changed, its attempts in order, and its channel freed keep the attempts in order. -/
theorem effect {u : State} {p : Posting} {rest : List Posting} (h : u.AttemptsOk (p :: rest)) (hclaims : u.ClaimsOk)
    (hchannels : u.ChannelsOk (p :: u.arbiter.postings)) (hsub : u.arbiter.postings ⊆ rest)
    (halone : p.channel ∉ u.arbiter.postings.map (·.channel)) {g : StageRecord → StageRecord}
    (hg : ∀ k rs, u.staged p.handle.slot = some (k, rs) → (rs.get p.stage).state.active = true →
      attemptsOk k p.stage (rs.get p.stage) → attemptsOk k p.stage (g (rs.get p.stage))) :
    ((u.modStage p.handle p.stage g).restChannel p.channel).AttemptsOk u.arbiter.postings :=
  h.unbind hclaims hchannels (b := ⟨p.handle, p.stage⟩) (by rw [(hchannels.ending p List.mem_cons_self).1]) hg
    (List.Subset.trans hsub (List.subset_cons_self _ _))
    fun q hq => ⟨List.mem_cons_of_mem _ hq, fun hqp => halone (hqp ▸ List.mem_map_of_mem hq)⟩

/-- A retirement keeps the attempts of the other files in order (R147). -/
theorem retire (h : s.AttemptsOk ps) (i : SlotId) (f : FileRec) : (s.retire i f).AttemptsOk ps := by
  have hslot (j) : (s.retire i f).slot j = if i = j then ⟨(s.slot i).gen + 1, none, []⟩ else s.slot j :=
    State.slot_setSlot _ _ _ _
  have hbank (b) : ((s.retire i f).bank b).contents = (s.bank b).contents := by
    have hbank : (s.retire i f).bank b =
        if f.bank = b then { s.bank f.bank with users := (s.bank f.bank).users - 1 } else s.bank b :=
      State.bank_setBank _ _ _ _
    rw [hbank]
    split
    · next hb => subst hb; rfl
    · rfl
  have hgone : (s.retire i f).staged i = none := by rw [State.staged, State.file, hslot, if_pos rfl]; rfl
  refine h.shrink (fun j hj => ?_) fun j => ?_
  · rw [hslot, if_neg]
    rintro rfl
    exact hj hgone
  · by_cases hij : i = j
    · exact .inr (hij ▸ hgone)
    · exact .inl (State.staged_congr (by rw [State.file, hslot, if_neg hij]; rfl) fun f _ => hbank f.bank)

/-- A file opened on a READY bank in a free slot has its attempts before it (R16). -/
theorem openFile (h : s.AttemptsOk ps) (hclaims : s.ClaimsOk) (hchannels : s.ChannelsOk ps) (i : SlotId)
    (serial : Serial) (v : Word) (b : BankId) (hfree : s.file i = none)
    (hpos : ∀ t, (s.bank b).contents.requires t = true → 0 < (s.bank b).contents.retryLimit t) :
    (s.openFile i serial v b).AttemptsOk ps := by
  have hslot (j) : (s.openFile i serial v b).slot j = if i = j then ⟨(s.slot i).gen,
      some ⟨serial, v, nextOrder s.engine.admissions, b, [], .pending, some (.fresh (s.bank b).contents)⟩, []⟩
      else s.slot j := State.slot_setSlot _ _ _ _
  have hgen (j) : ((s.openFile i serial v b).slot j).gen = (s.slot j).gen := by
    rw [hslot]
    split
    · next hj => subst hj; rfl
    · rfl
  have hbank (d) : ((s.openFile i serial v b).bank d).contents = (s.bank d).contents := by
    have hbank : (s.openFile i serial v b).bank d =
        if b = d then { s.bank b with users := (s.bank b).users + 1 } else s.bank d := State.bank_setBank _ _ _ _
    rw [hbank]
    split
    · next hb => subst hb; rfl
    · rfl
  have hother (j) (hij : i ≠ j) : (s.openFile i serial v b).staged j = s.staged j :=
    State.staged_congr (by rw [State.file, hslot, if_neg hij]; rfl) fun f _ => hbank f.bank
  refine ⟨fun j c rs hrs x => ?_, fun p hp hk hcurrent c rs hrs => ?_⟩
  · by_cases hij : i = j
    · subst hij
      obtain ⟨f, hf, hrs', rfl⟩ := State.staged_eq_some.mp hrs
      cases (State.file_openFile s i serial v b).symm.trans hf
      cases hrs'
      rw [hbank]
      exact attemptsOk_fresh hpos x
    · exact h.stage j c rs ((hother j hij).symm.trans hrs) x
  · have hij : i ≠ p.handle.slot := by
      intro hij
      obtain ⟨_, rs', hrs', _⟩ := hclaims.bound p.channel ⟨p.handle, p.stage⟩ (by rw [(hchannels.ending p hp).1])
      rw [State.records, ← hij, hfree] at hrs'
      cases hrs'
    exact h.lapse p hp hk ((State.handleOf_congr (hgen _)).symm.trans hcurrent) c rs ((hother _ hij).symm.trans hrs)

/-- A file written with another stage record, its attempts in order, with no lapse posted of it, keeps the attempts in
order. -/
theorem setFile (h : s.AttemptsOk ps) {i : SlotId} {f : FileRec} {rs : StageRecords} (x : Stage)
    {g : StageRecord → StageRecord} (hf : s.file i = some f) (hrs : f.records = some rs)
    (hg : attemptsOk (s.bank f.bank).contents x (rs.get x) → attemptsOk (s.bank f.bank).contents x (g (rs.get x)))
    (hclaimed : (rs.get x).state ≠ .claimed) : (s.setFile i (f.modStage x g)).AttemptsOk ps := by
  have hold : s.staged i = some ((s.bank f.bank).contents, rs) := State.staged_eq_some.mpr ⟨f, hf, hrs, rfl⟩
  refine h.setStage x (g (rs.get x)) hold (fun j => State.gen_setFile _ _ _ _) ?_
    (fun j hj => by rw [State.staged_setFile, if_neg hj]) hg fun p hp hk hhandle hx => ?_
  · rw [State.staged_setFile, if_pos rfl, FileRec.modStage, hrs]
    rfl
  · have hslot : p.handle.slot = i := by rw [hhandle]; rfl
    subst hx
    exact hclaimed (h.lapse p hp hk (by rw [hslot, hhandle]) _ rs (hslot ▸ hold))

/-- The start of a claimed stage keeps the attempts in order (R55). -/
theorem startStage (h : s.AttemptsOk ps) (hclaims : s.ClaimsOk) (hchannels : s.ChannelsOk ps) {c : ChannelId}
    {b : Binding} (hb : (s.chan c).binding = some b) (hclaimed : (s.chan c).state = .claimed) :
    (s.startStage c b).AttemptsOk ps := by
  obtain ⟨hcurrent, rs, hrs, _, hmatch⟩ := hclaims.bound c b hb
  have hstate : (rs.get b.stage).state = .claimed := by simpa [hclaimed, stateMatches] using hmatch
  obtain ⟨f, hf, hrs'⟩ := Option.bind_eq_some_iff.mp hrs
  have hold : s.staged b.handle.slot = some ((s.bank f.bank).contents, rs) :=
    State.staged_eq_some.mpr ⟨f, hf, hrs', rfl⟩
  unfold State.startStage
  refine recompute ?_ _
  set u := s.setChan c ⟨.running, some b, none, some ((s.bankOf c).contents.stageLimitMs b.stage)⟩ with hu
  have hstaged (j) : (u.modStage b.handle b.stage StageRecord.start).staged j =
      if b.handle.slot = j ∧ s.handleOf j = b.handle then
        (s.staged j).map fun x => (x.1, x.2.set b.stage (x.2.get b.stage).start)
      else s.staged j := u.staged_modStage _ _ _ j
  refine congr_engine (s := u.modStage b.handle b.stage StageRecord.start) ?_ (State.startAnalyzer_frame _ c).1
    (State.startAnalyzer_frame _ c).2.2.2.1
  refine h.setStage b.stage (rs.get b.stage).start hold (fun j => State.gen_modStage u _ _ _ j)
    (by rw [hstaged, if_pos ⟨rfl, hcurrent⟩, hold]; rfl) (fun j hj => by rw [hstaged, if_neg fun hij => hj hij.1])
    (fun hok => attemptsOk_start hok hstate) fun p hp _ hhandle _ => ?_
  have hp' := (hchannels.ending p hp).1
  have hsame : p.channel = c := hclaims.unique (b := ⟨p.handle, p.stage⟩) (by rw [hp']) hb
    (congrArg Handle.slot (hhandle.trans hcurrent))
  rw [← hsame, hp'] at hclaimed
  cases hclaimed

end State.AttemptsOk

/-- The bank of a live file allows an attempt at each stage it requires: it is READY while it has users (R27, R32). -/
theorem retryLimit_pos_of_live {s : State} (hstore : StoreInv s) (htable : FileTableInv s) {i : SlotId} {f : FileRec}
    (hf : s.file i = some f) {t : Stage} (ht : (s.bank f.bank).contents.requires t = true) :
    0 < (s.bank f.bank).contents.retryLimit t := by
  obtain ⟨_, husers, _, hready⟩ := hstore.1 f.bank
  have hmem : i ∈ s.fileTable.boundSlots f.bank := by
    rw [FileTable.mem_boundSlots]
    simp only [State.fileTable]
    rw [hf]
    rfl
  have hcount : (s.bank f.bank).users ≠ 0 := by
    have heq : (s.bank f.bank).users = _ := ((fileTableInv_iff s).mp htable).users f.bank
    rw [heq]
    exact Finset.card_ne_zero_of_mem hmem
  exact Contents.retryLimit_pos (hready (husers hcount)).1 ht

/-- No live file is bound to a bank without users (R27). -/
theorem bank_ne_of_users {s : State} (htable : FileTableInv s) {b : BankId} (husers : (s.bank b).users = 0)
    {i : SlotId} {f : FileRec} (hf : s.file i = some f) : b ≠ f.bank := by
  rintro rfl
  have heq : (s.bank f.bank).users = _ := ((fileTableInv_iff s).mp htable).users f.bank
  rw [husers] at heq
  have hmem : i ∈ s.fileTable.boundSlots f.bank := by
    rw [FileTable.mem_boundSlots]
    simp only [State.fileTable]
    rw [hf]
    rfl
  exact Finset.card_ne_zero_of_mem hmem heq.symm

/-- Every move keeps the attempts in order, where channels, claims, store and file table are. -/
theorem AttemptInv.move {s t : State} (hm : Move s t) (hchannels : ChannelInv s) (hclaims : s.ClaimsOk)
    (hstore : StoreInv s) (htable : FileTableInv s) (hattempts : AttemptInv s) : AttemptInv t := by
  rw [attemptInv_iff] at hattempts ⊢
  have hok := (channelInv_iff s).mp hchannels
  have hfreed (i : SlotId) (cause : Cause) :
      (s.freed i cause).AttemptsOk (s.freed i cause).arbiter.postings := by
    unfold State.freed
    split
    · exact hattempts.engineEnd hclaims hchannels _ _
    · exact hattempts
  cases hm with
  | damage i f => exact (hattempts.damage i f).mono (s.postings_damage i f)
  | engineEnd c cause => exact hattempts.engineEnd hclaims hchannels c cause
  | post c b kind hb hstate hlapse =>
    have hpostings : (s.post c b kind).arbiter.postings = s.arbiter.postings ++ [⟨c, b.handle, b.stage, kind⟩] :=
      congrArg Arbiter.postings (State.clearAnalyzer_arbiter _ c)
    have hkept : (s.post c b kind).AttemptsOk s.arbiter.postings := hattempts.congr_engine (by simp) (by simp)
    rw [hpostings]
    refine ⟨hkept.stage, fun p hp hk hcurrent k rs hrs => ?_⟩
    rcases List.mem_append.mp hp with hp | hp
    · exact hkept.lapse p hp hk hcurrent k rs hrs
    · cases List.mem_singleton.mp hp
      have hrs' : s.staged b.handle.slot = some (k, rs) :=
        (State.staged_of_engine (by simp) (by simp) _).symm.trans hrs
      obtain ⟨_, rs', hrs'', _, hmatch⟩ := hclaims.bound c b hb
      cases hrs''.symm.trans (State.records_of_staged hrs')
      simpa [hlapse hk, stateMatches] using hmatch
  | applyEnd item p rest e hp =>
    refine hattempts.applyPosting hclaims hchannels item hp (fun u => by simp [State.applyEnd])
      fun u hu huclaims huchannels hsub halone => State.AttemptsOk.recompute (hu.effect huclaims huchannels hsub halone
        fun k rs hrs hactive hstage => ?_) _
    obtain ⟨f, hf, _, rfl⟩ := State.staged_eq_some.mp hrs
    have hcurrent := (huclaims.bound p.channel ⟨p.handle, p.stage⟩
      (by rw [(huchannels.ending p List.mem_cons_self).1])).1
    have hlimit : u.retryLimit p.handle p.stage = (u.bank f.bank).contents.retryLimit p.stage := by
      rw [State.retryLimit, State.fileAt_eq.mpr ⟨congrArg Handle.gen hcurrent, hf⟩]
    rw [hlimit]
    exact attemptsOk_applyEnd hstage hactive e
  | applyLapse item p rest hp hk =>
    refine hattempts.applyPosting hclaims hchannels item hp (fun u => by simp [State.applyLapse])
      fun u hu huclaims huchannels hsub halone => ?_
    have hlapsed := hu.effect huclaims huchannels hsub halone (g := StageRecord.lapse)
      fun k rs hrs _ hstage => attemptsOk_lapse hstage (hu.lapse p List.mem_cons_self hk
        (huclaims.bound p.channel ⟨p.handle, p.stage⟩ (by rw [(huchannels.ending p List.mem_cons_self).1])).1 k rs hrs)
    exact (hlapsed.recompute p.handle.slot).congr_engine (State.noticeLapse_engine _ _ _) (State.noticeLapse_store _ _ _)
  | release i f => exact hattempts.retire i f
  | forceRetire i f => exact (hfreed i .forced).retire i f
  | admitFile i serial v b _ _ hfree hready =>
    have hpos (t) (ht : (s.bank b).contents.requires t = true) : 0 < (s.bank b).contents.retryLimit t :=
      Contents.retryLimit_pos ((hstore.1 b).2.2.2 hready).1 ht
    have hopened := (hattempts.openFile hclaims hok i serial v b hfree hpos).recompute i
    rwa [State.recompute_arbiter]
  | holds i f holds hf =>
    rw [State.recompute_arbiter]
    refine State.AttemptsOk.recompute (hattempts.shrink (t := s.setFile i { f with holds := holds })
      (fun j _ => State.gen_setFile _ _ _ _) fun j => .inl ?_) i
    rw [State.staged_setFile]
    split
    · next hj => subst hj; rw [State.staged, hf]; rfl
    · rfl
  | reopen i f rs x hf hrs hfailed =>
    rw [State.recompute_arbiter]
    exact (hattempts.setFile x hf hrs (fun hstage => attemptsOk_reopen hstage hfailed fun hreq =>
      retryLimit_pos_of_live hstore htable hf hreq) (by simp [hfailed])).recompute i
  | claim i f rs x c hf hrs hopen =>
    rw [State.recompute_arbiter]
    have hclaimed := hattempts.setFile x (g := fun r => { r with state := .claimed, channel := some c }) hf hrs
      (fun hstage => attemptsOk_claim hstage hopen (some c)) (by simp [hopen])
    exact (hclaimed.congr_engine (t := s.bindChannel i f x c) rfl rfl).recompute i
  | start c b hb hclaimed =>
    have hpostings : (s.startStage c b).arbiter.postings = s.arbiter.postings := by
      unfold State.startStage
      simp [(State.startAnalyzer_frame _ c).2.2.1]
    rw [hpostings]
    exact hattempts.startStage hclaims hok hb hclaimed
  | bank b k hbank =>
    obtain ⟨_, hbefore, _⟩ := hbank (hstore.1 b)
    refine hattempts.shrink (fun _ _ => rfl) fun j => .inl (State.staged_congr rfl fun f hf => ?_)
    rw [State.bank_setBank, if_neg (bank_ne_of_users htable hbefore hf)]
  | disturb ds =>
    exact hattempts.shrink (fun j _ => by simp) fun j => .inl (State.staged_congr (State.file_disturb _ _ _) fun f _ => rfl)
  | errors i errs =>
    exact hattempts.shrink (fun j _ => State.gen_setErrors _ _ _ _) fun j =>
      .inl (State.staged_congr (State.file_setErrors _ _ _ _) fun f _ => rfl)
  | settle =>
    exact (hattempts.shrink (t := s.settleReset) (fun _ _ => rfl) fun j =>
      .inl (State.staged_congr rfl fun _ _ => rfl)).mono (List.nil_subset _)
  | powerOn low => exact State.AttemptsOk.powerOn s.pending low
  | monitor | leak | leakEvaluates =>
    refine (hattempts.congr_engine ?_ ?_).mono ?_ <;> simp
  | cursor | windows =>
    exact hattempts.shrink (fun _ _ => rfl) fun j => .inl (State.staged_congr rfl fun _ _ => rfl)
  | settings =>
    exact hattempts.shrink (fun _ _ => rfl) fun j => .inl (State.staged_congr rfl fun _ _ => rfl)
  | ports | input | noise | noiseEvaluates => exact hattempts.congr_engine rfl rfl

/-- Settles O58: every move keeps the attempts in order, with channels, claims, store and file table. -/
theorem everyStepKeepsAttemptsWithinTheRetryLimit : Obligations.EveryStepKeepsAttemptsWithinTheRetryLimit := by
  intro s t hchannels hclaims hstore htable hattempts hstep
  refine (kept_by_step (P := fun u => ChannelInv u ∧ ClaimInv u ∧ StoreInv u ∧ FileTableInv u ∧ AttemptInv u)
    (fun hm hu => ?_) (fun u rest hu => ?_) ⟨hchannels, hclaims, hstore, htable, hattempts⟩ hstep).2.2.2.2
  · obtain ⟨hchannels, hclaims, hstore, htable, hattempts⟩ := hu
    have hclaimsOk := (claimInv_iff _).mp hclaims
    exact ⟨hchannels.move hm, (claimInv_iff _).mpr (hclaimsOk.move hm hchannels), hstore.move hm, htable.move hm hstore,
      hattempts.move hm hchannels hclaimsOk hstore htable⟩
  · obtain ⟨hchannels, hrest⟩ := hu
    exact ⟨hchannels.congr rfl rfl rfl rfl rfl rfl, hrest⟩

end Sys2Proof.Machine
end

section
/-! The step, reset, and what the machine right after reset meets. -/

namespace Sys2Proof.Machine

/-- Settles O1: the step takes the front command off the queue, and an empty queue leaves the state. -/
theorem stepRunsTheFrontCommand : Obligations.StepRunsTheFrontCommand := by
  refine ⟨fun c rest s => rfl, fun s h => ?_⟩
  unfold step
  rw [h]

/-- While RESET# is low nothing that waits for it has any effect (R170; entry 15). -/
theorem State.unlessReset_low {s : State} (h : s.resetLow = true) (f : State → State) : s.unlessReset f = s :=
  if_pos h

/-- While RESET# is low no request that reads the record memory has any effect (R170; entry 15). -/
theorem State.serveReading_low {s : State} (h : s.resetLow = true) (r : Request) (ds : Disturbances)
    (item : PortId → List Byte → State → Reply) : s.serveReading r ds item = s := by
  unfold State.serveReading State.serve
  exact State.unlessReset_low h _

/-- While RESET# is low no command but the line's own two has any effect (R170; entry 15). -/
theorem exec_resetLow {c : Instr} {s : State} (hassert : c ≠ .resetAssert) (hdeassert : c ≠ .resetDeassert)
    (hlow : s.resetLow = true) : exec c s = .next s := by
  cases c
  case resetAssert => exact absurd rfl hassert
  case resetDeassert => exact absurd rfl hdeassert
  case lookup | list | holdFile | liftHold | reopenStage | claim | start | abandon | result | release | report
    | forceRetire => exact congrArg Host.Outcome.next (State.serveReading_low hlow _ _ _)
  all_goals exact congrArg _ (State.unlessReset_low hlow _)

/-- Settles O11: the power-on state block by block. -/
theorem resetGivesEveryBlockItsPowerOnValue : Obligations.ResetGivesEveryBlockItsPowerOnValue := by
  refine ⟨⟨fun s => rfl, fun s => rfl, fun c s => exec_resetLow, fun q low => ⟨fun p => ?_, rfl, fun p => ?_, rfl, rfl⟩⟩,
    rfl, fun i => ?_, rfl, rfl, rfl, rfl, fun b => ?_, fun i => ?_, rfl, rfl, fun c => ?_, fun c => ?_, rfl, rfl, rfl, rfl,
    rfl, rfl, rfl, rfl, rfl, fun c => ?_, rfl, rfl, fun k => ?_⟩
  · rw [State.port_powerOn]
    exact ⟨rfl, rfl, rfl, rfl, rfl, rfl⟩
  · simp [State.priority, State.powerOn]
  · have hslot : State.reset.slot i = ⟨0, none, []⟩ := by simp [State.reset, State.powerOn, State.slot]
    rw [State.file, hslot]
    exact ⟨rfl, rfl⟩
  · have hbank : State.reset.bank b = .empty := by simp [State.reset, State.powerOn, State.bank]
    rw [hbank]
    exact ⟨rfl, rfl⟩
  · simp [State.reset, State.powerOn]
  · cases c <;> exact ⟨rfl, rfl, rfl, rfl⟩
  · cases c <;> rfl
  · cases c <;> rfl
  · cases k <;> rfl

/-- Settles O60: the power-on state meets each standing condition, so the state right after reset does. -/
theorem resetMeetsEveryStandingCondition : Obligations.ResetMeetsEveryStandingCondition :=
  ⟨LinkInv.powerOn [] false, ChannelInv.powerOn [] false, (claimInv_iff _).mpr (State.ClaimsOk.powerOn [] false),
    StoreInv.powerOn [] false, (fileTableInv_iff _).mpr (fileTable_powerOn_ok [] false),
    (fileInv_iff _).mpr (State.FilesOk.powerOn [] false), (attemptInv_iff _).mpr (State.AttemptsOk.powerOn [] false),
    QueueInv.powerOn [] false⟩

end Sys2Proof.Machine
end

section
/-! The requests, the enumerated values, the numbers as bytes and the check word (R158, R161, R172, R173). -/

namespace Sys2Proof.Machine

/-! ### The request table (R161) -/

/-- A request is found by its code. -/
theorem Request.find_code (r : Request) : (Request.table.find? fun x => x.code == r.code) = some r := by
  cases r <;> rfl

/-- A code names the request it is the code of, and no other (R161). -/
theorem Request.ofCode_eq_some_iff (code : Byte) (r : Request) : Request.ofCode code = some r ↔ r.code = code.toNat := by
  constructor
  · intro h
    simpa using List.find?_some h
  · intro h
    rw [Request.ofCode, ← h]
    exact r.find_code

/-- The lengths of a DATA request: 1 to 15 words (R161). -/
theorem Request.lengthOk_data_iff (n : Nat) :
    Request.lengthOk .data n = true ↔ n ∈ [4, 8, 12, 16, 20, 24, 28, 32, 36, 40, 44, 48, 52, 56, 60] := by
  simp only [Request.lengthOk, Bool.and_eq_true, decide_eq_true_eq, beq_iff_eq, List.mem_cons, List.not_mem_nil, or_false]
  omega

/-- A request of one length has that length (R161). -/
theorem Request.lengthOk_iff {r : Request} (hr : r ≠ .data) {k : Nat} (hk : r.lengthOk k = true) (n : Nat) :
    r.lengthOk n = true ↔ n ∈ [k] := by
  cases r
  case data => exact absurd rfl hr
  all_goals
    simp only [Request.lengthOk, beq_iff_eq] at hk ⊢
    simp [hk]

/-- A role is permitted what its row grants, and the supervisor everything (R161). -/
theorem Request.permitted_iff {r : Request} {roles : List Role}
    (h : ∀ role, r.permitted role = (role == .supervisor || roles.contains role)) (role : Role) :
    r.permitted role = true ↔ role = .supervisor ∨ role ∈ roles := by
  rw [h]
  simp

/-- The roles of the ports. -/
def allRoles : List Role := [.unassigned, .entry, .exit, .runinA, .runinB, .noise, .leakA, .leakB, .supervisor]

/-- Every role is among them. -/
theorem mem_allRoles (role : Role) : role ∈ allRoles := by
  cases role <;> decide

/-- A table of requests is right where its codes are, its lengths, one each but for DATA, and its roles (R161). -/
theorem requestRows_ok (rows : List (Request × Nat × List Nat × List Role)) (hcode : ∀ row ∈ rows, row.1.code = row.2.1)
    (hlength : ∀ row ∈ rows,
      row.1 = .data ∧ row.2.2.1 = [4, 8, 12, 16, 20, 24, 28, 32, 36, 40, 44, 48, 52, 56, 60] ∨
      row.1 ≠ .data ∧ ∃ k ∈ row.2.2.1, row.2.2.1 = [k] ∧ row.1.lengthOk k = true)
    (hroles : ∀ row ∈ rows, ∀ role ∈ allRoles,
      row.1.permitted role = (role == .supervisor || row.2.2.2.contains role)) :
    ∀ row ∈ rows, row.1.code = row.2.1 ∧ (∀ n : Nat, row.1.lengthOk n = true ↔ n ∈ row.2.2.1) ∧
      ∀ role : Role, row.1.permitted role = true ↔ role = .supervisor ∨ role ∈ row.2.2.2 := by
  refine fun row hrow => ⟨hcode row hrow, fun n => ?_, Request.permitted_iff fun role => hroles row hrow role
    (mem_allRoles role)⟩
  rcases hlength row hrow with ⟨hdata, hlist⟩ | ⟨hother, k, _, hlist, hk⟩
  · rw [hdata, hlist]
    exact Request.lengthOk_data_iff n
  · rw [hlist]
    exact Request.lengthOk_iff hother hk n

/-! ### The bytes of enumerated values and of numbers (R172, R173) -/

/-- A byte names a direction by its place (R173). -/
theorem Direction.ofByte_eq (b : Byte) : Direction.ofByte b = [Direction.write, .read][b.toNat]? := by
  unfold Direction.ofByte
  by_cases h0 : b = 0
  · subst h0; rfl
  · by_cases h1 : b = 1
    · subst h1; rfl
    · have hlarge : 2 ≤ b.toNat := by bv_omega
      rw [if_neg h0, if_neg h1, List.getElem?_eq_none (by simpa using hlarge)]

/-- The words of a payload that begins with a word's bytes. -/
theorem wordsOf_bytesOfWord_append (w : Word) (rest : List Byte) :
    wordsOf (bytesOfWord w ++ rest) = w :: wordsOf rest := by
  have hbytes : bytesOfWord w ++ rest = BitVec.ofNat 8 (w.toNat / 256 ^ 3) :: BitVec.ofNat 8 (w.toNat / 256 ^ 2) ::
      BitVec.ofNat 8 (w.toNat / 256 ^ 1) :: BitVec.ofNat 8 (w.toNat / 256 ^ 0) :: rest := rfl
  rw [hbytes, wordsOf]
  exact congrArg (· :: wordsOf rest) (ofNat_natOf_bytesOfWord w)

/-- The characters of a serial: digits and capital letters (R173). -/
theorem isSerialByte_iff (b : Byte) : isSerialByte b = true ↔
    (0x30 ≤ b.toNat ∧ b.toNat ≤ 0x39) ∨ (0x41 ≤ b.toNat ∧ b.toNat ≤ 0x5A) := by
  simp [isSerialByte]

/-! ### The check word (R158) -/

/-- Eight bits of the check word are those of a fold over 8. -/
theorem crcBits_eq_foldl (c : BitVec 16) :
    crcBits 8 c = (List.range 8).foldl (fun c _ => if c.getLsbD 15 then (c <<< 1) ^^^ 0x1021 else c <<< 1) c := by
  have hbit : (fun (c : BitVec 16) (_ : Nat) => if c.getLsbD 15 then (c <<< 1) ^^^ 0x1021 else c <<< 1) =
      fun c _ => crcBit c := by
    funext c _
    rw [crcBit, BitVec.msb_eq_getLsbD_last]
    rfl
  rw [hbit]
  rfl

/-- The check word after one more byte. -/
theorem crc16_append_singleton (bs : List Byte) (b : Byte) :
    crc16 (bs ++ [b]) = crcBits 8 (crc16 bs ^^^ (b.zeroExtend 16 <<< 8)) := by
  simp only [crc16, List.foldl_append, List.foldl_cons, List.foldl_nil, crcByte]

/-- Settles O3: the tables by their rows, the bytes by their places, the numbers by their last byte. -/
theorem requestTableHasItsCodesLengthsAndRoles : Obligations.RequestTableHasItsCodesLengthsAndRoles := by
  refine ⟨Request.ofCode_eq_some_iff, fun r => ?_, requestRows_ok _ (by decide) (by decide) (by decide), ?codes, ?values,
    ?audio, ?states, ?numbers, fun f => rfl, fun f => rfl, rfl, by decide +kernel, fun bs b => ?_⟩
  case codes => exact ⟨fun k => by cases k <;> rfl, fun a => by cases a <;> rfl, fun d => by cases d <;> rfl⟩
  case values =>
    refine ⟨fun r => by cases r <;> rfl, fun t => by cases t <;> rfl, fun x => by cases x <;> rfl, fun c => ?_,
      fun v => by cases v <;> rfl, fun e => by cases e <;> rfl, fun c => by cases c <;> rfl⟩
    rcases c with _ | c
    · rfl
    · cases c <;> rfl
  case audio =>
    exact ⟨fun f => by cases f <;> rfl, fun x => by cases x <;> rfl, Direction.ofByte_eq, fun t => by cases t <;> rfl,
      fun m => by cases m <;> rfl, rfl, fun f => by cases f <;> rfl, fun q => by cases q <;> rfl,
      fun r => by cases r <;> rfl⟩
  case states =>
    exact ⟨fun x => by cases x <;> rfl, fun _ _ => rfl, fun k => by cases k <;> rfl, fun k => by cases k <;> rfl⟩
  case numbers =>
    exact ⟨fun v => rfl, bytesOf_succ, fun n v => rfl, rfl, natOf_append_singleton, fun w => rfl, rfl,
      wordsOf_bytesOfWord_append, fun h => rfl, rfl, rfl, fun b => rfl, isSerialByte_iff⟩
  · cases r <;> decide
  · rw [crc16_append_singleton, crcBits_eq_foldl]

end Sys2Proof.Machine
end

section
/-! The receive side of the ports (R158, R159, R161) and their transmit side (R160, R184). -/

namespace Sys2Proof.Machine

/-! ### Received frames (R158, R159) -/

/-- While RESET# is high what waits for it has its effect (R170). -/
theorem State.unlessReset_high {s : State} (h : s.resetLow = false) (f : State → State) : s.unlessReset f = f s :=
  if_neg (by simp [h])

/-- A frame's bytes on an idle line are received as that frame, or discarded by its kind (R158, R159). -/
theorem State.receiveLine_line (s : State) (p : PortId) (f : Frame) (h : f.payload.length ≤ 64)
    (hrx : (s.port p).rx = none) : s.receiveLine p f.line = s.takeFrame p f := by
  have hline : f.line = (0xA5 :: (f.body ++ checkBytes f.body)).map fun b => ⟨b, true⟩ := rfl
  rw [hline, State.receiveLine_body s p f h _ (checkBytes_length _) hrx, checkFrame_body f h _ (checkBytes_length _),
    if_pos rfl]
  obtain ⟨kind, tag, code, payload⟩ := f
  cases kind <;> rfl

/-- A reading is garbled by its code or by its length (R159). -/
theorem readingGarbled_iff (role : Role) (f : Frame) :
    readingGarbled role f = true ↔ f.code ≠ 0 ∨ ∃ n ∈ role.readingLength, n ≠ f.payload.length := by
  unfold readingGarbled
  cases role.readingLength <;> simp

/-- Settles O5: the bytes are received as the frame, which then goes by its kind. -/
theorem everyFrameOnTheLineIsReceivedAsItself : Obligations.EveryFrameOnTheLineIsReceivedAsItself := by
  intro f p s hlength hrx
  rw [s.receiveLine_line p f hlength hrx]
  obtain ⟨kind, tag, code, payload⟩ := f
  cases kind
  case reading => exact if_congr (readingGarbled_iff _ _) rfl rfl
  all_goals rfl

/-! ### Received requests (R161) -/

/-- A REQUEST frame on an idle line meets the port's checks (R161). -/
theorem exec_requestFrame {s : State} {p : PortId} {payload : List Byte} (tag code : Byte) (hreset : s.resetLow = false)
    (hrx : (s.port p).rx = none) (hlength : payload.length ≤ 64) :
    exec (.requestFrame p tag code payload) s = .next (s.takeRequest p tag code payload) :=
  congrArg Host.Outcome.next ((State.unlessReset_high hreset _).trans
    (s.receiveLine_line p ⟨.request, tag, code, payload⟩ hlength hrx))

/-- A request at a port without a held one, of a code that names a request, meets role and length (R161). -/
theorem State.takeRequest_of_code {s : State} {p : PortId} {code : Byte} {r : Request}
    (hheld : (s.port p).held = none) (hcode : r.code = code.toNat) (tag : Byte) (payload : List Byte) :
    s.takeRequest p tag code payload =
      if !r.permitted (s.port p).role then s.ownAnswer p tag .role
      else if !r.lengthOk payload.length then s.ownAnswer p tag .malformed
      else s.setPort p { s.port p with held := some ⟨tag, r, payload⟩ } := by
  unfold State.takeRequest
  rw [hheld, (Request.ofCode_eq_some_iff code r).mpr hcode]
  rfl

/-- Settles O4: the port's four checks in their order. -/
theorem requestFrameIsAnsweredByThePortOrHeld : Obligations.RequestFrameIsAnsweredByThePortOrHeld := by
  intro p tag code payload s hreset hrx hlength
  rw [exec_requestFrame tag code hreset hrx hlength]
  refine ⟨fun hheld => ?_, fun hheld hno => ?_, fun r hheld hcode => ?_⟩
  · rw [State.takeRequest, if_pos hheld]
    rfl
  · have hnone : Request.ofCode code = none := by
      rw [Option.eq_none_iff_forall_ne_some]
      exact fun r hr => hno r ((Request.ofCode_eq_some_iff code r).mp hr)
    rw [State.takeRequest, hheld, hnone]
    rfl
  · rw [State.takeRequest_of_code hheld hcode]
    refine ⟨fun hrole => ?_, fun hrole hlen => ?_, fun hrole hlen => ?_⟩
    · rw [hrole]; rfl
    · rw [hrole, hlen]; rfl
    · rw [hrole, hlen]; rfl

/-! ### Discarded frames (R159) -/

/-- A frame short of complete goes on. -/
theorem assembled_of_short {bytes : List Byte}
    (h : bytes.length < 4 ∨ byteAt bytes 2 ≤ 64 ∧ bytes.length < 6 + byteAt bytes 2) :
    assembled bytes = (some bytes, .quiet) := by
  unfold assembled Config.payloadLimit
  by_cases h4 : bytes.length < 4
  · rw [if_pos h4]
  · obtain ⟨hle, hlt⟩ := h.resolve_left h4
    rw [if_neg h4, if_neg (by omega), if_pos hlt]

/-- A start byte on an idle line begins an assembly. -/
theorem State.receiveByte_start {s : State} {p : PortId} (hrx : (s.port p).rx = none) :
    s.receiveByte p ⟨0xA5, true⟩ = s.setPort p { s.port p with rx := some [] } := by
  simp [State.receiveByte, rxByte, hrx]

/-- The bytes of a whole frame, its kind whatever it is, are checked at the last byte of the check word. -/
theorem State.receiveLine_complete (s : State) (p : PortId) {bytes : List Byte} {n : Nat}
    (hlength : bytes.length = 6 + n) (hbyte : byteAt bytes 2 = n) (hn : n ≤ 64) (hrx : (s.port p).rx = none)
    (hgarbled : checkFrame bytes = .garbled) :
    s.receiveLine p ((0xA5 :: bytes).map fun b => ⟨b, true⟩) = s.setPort p { s.port p with garbled := true } := by
  obtain ⟨init, last, rfl⟩ : ∃ init last, bytes = init ++ [last] :=
    ⟨bytes.dropLast, bytes.getLast (by rintro rfl; simp at hlength; omega), (List.dropLast_append_getLast _).symm⟩
  have hinit : init.length = 5 + n := by
    rw [List.length_append, List.length_singleton] at hlength
    omega
  have hquiet := s.receiveLine_quiet p init [] [⟨last, true⟩] fun k hk => by
    rw [List.nil_append]
    refine assembled_of_short ?_
    have htake : (init.take (k + 1)).length = k + 1 := by simp; omega
    by_cases h4 : k + 1 < 4
    · exact .inl (by rw [htake]; exact h4)
    · have hsame : byteAt (init.take (k + 1)) 2 = n := by
        rw [← hbyte]
        simp [byteAt, List.getElem?_append, show 2 < k + 1 by omega, show 2 < init.length by omega]
      exact .inr (by rw [htake, hsame]; omega)
  have hlast : assembled (init ++ [last]) = (none, .garbled) := by
    unfold assembled Config.payloadLimit
    rw [hlength, hbyte, hgarbled, if_neg (by omega), if_neg (by omega), if_neg (by omega)]
  have hbytes : ((0xA5 : Byte) :: (init ++ [last])).map (fun b => (⟨b, true⟩ : LineByte)) =
      ⟨0xA5, true⟩ :: (init.map (fun b => ⟨b, true⟩) ++ [⟨last, true⟩]) := by simp
  rw [hbytes, State.receiveLine, List.foldl_cons, State.receiveByte_start hrx]
  rw [State.receiveLine, State.receiveLine] at hquiet
  rw [hquiet]
  simp [State.receiveByte, rxByte, hlast, State.setGarbled, State.setPort_setPort, hrx]

/-- A header whose length is above 64 is garbled at its last byte (R159; entry 6). -/
theorem State.receiveLine_long_header (s : State) (p : PortId) (kind tag code : Byte) {length : Byte}
    (h : 64 < length.toNat) (hrx : (s.port p).rx = none) :
    s.receiveLine p ([0xA5, kind, tag, length, code].map fun b => ⟨b, true⟩) =
      s.setPort p { s.port p with garbled := true } := by
  have hquiet := s.receiveLine_quiet p [kind, tag, length] [] [⟨code, true⟩] fun k hk => by
    rw [List.nil_append]
    refine assembled_of_short (.inl ?_)
    simp at hk ⊢
    omega
  have hlast : assembled [kind, tag, length, code] = (none, .garbled) := by
    simp [assembled, Config.payloadLimit, byteAt, h]
  have hbytes : ([0xA5, kind, tag, length, code] : List Byte).map (fun b => (⟨b, true⟩ : LineByte)) =
      ⟨0xA5, true⟩ :: (([kind, tag, length] : List Byte).map (fun b => ⟨b, true⟩) ++ [⟨code, true⟩]) := rfl
  rw [hbytes, State.receiveLine, List.foldl_cons, State.receiveByte_start hrx]
  rw [State.receiveLine, State.receiveLine] at hquiet
  rw [hquiet]
  simp [State.receiveByte, rxByte, hlast, State.setGarbled, State.setPort_setPort, hrx]

/-- Raw bytes go to the receive side while RESET# is high (R159). -/
theorem exec_garbledFrame {s : State} (p : PortId) (line : List LineByte) (hreset : s.resetLow = false) :
    exec (.garbledFrame p line) s = .next (s.receiveLine p line) :=
  congrArg Host.Outcome.next (State.unlessReset_high hreset _)

/-- A kind byte that is none of 1 to 5 is of no kind the 4120 takes. -/
theorem FrameKind.taken_eq_none {kind : Byte} (h : kind = 0 ∨ 5 < kind.toNat) : FrameKind.taken kind = none := by
  unfold FrameKind.taken
  rw [if_neg (by rintro rfl; simp at h), if_neg (by rintro rfl; simp at h)]

/-- Settles O6: each discarded frame by where its assembly ends. -/
theorem discardedFramesSetTheGarbledFlag : Obligations.DiscardedFramesSetTheGarbledFlag := by
  intro p s hreset
  refine ⟨fun hrx b => ?noStop, fun hrx => ?silence, fun hrx f w hlength hw hne => ?checkWord,
    fun hrx kind tag code payload hlength hkind => ?kind, fun hrx kind tag length code hlong => ?header,
    fun hrx b hb stop => ?idle⟩
  case noStop =>
    obtain ⟨bytes, hbytes⟩ := Option.isSome_iff_exists.mp hrx
    rw [exec_garbledFrame p _ hreset]
    simp [State.receiveLine, State.receiveByte, rxByte, hbytes, State.setGarbled, State.setPort_setPort]
  case silence =>
    exact congrArg Host.Outcome.next ((State.unlessReset_high hreset _).trans (if_pos hrx))
  case checkWord =>
    rw [exec_garbledFrame p _ hreset, State.receiveLine_body s p f hlength w hw hrx, checkFrame_body f hlength w hw,
      if_neg hne]
    rfl
  case kind =>
    have hsmall : payload.length % 256 = payload.length := Nat.mod_eq_of_lt (by omega)
    have hbyte (l : List Byte) : byteAt ([kind, tag, BitVec.ofNat 8 payload.length, code] ++ payload ++ l) 2 =
        payload.length := by simp [byteAt, hsmall]
    refine (exec_garbledFrame p _ hreset).trans ?_
    refine congrArg Host.Outcome.next (State.receiveLine_complete s p (n := payload.length) ?_ (hbyte _) hlength hrx ?_)
    · simp [checkBytes_length]; omega
    · unfold checkFrame
      have hbody : ([kind, tag, BitVec.ofNat 8 payload.length, code] ++ payload).length = 4 + payload.length := by
        simp; omega
      rw [hbyte, ← hbody, List.take_left, List.drop_left, if_pos rfl]
      have hfirst (l : List Byte) : ([kind, tag, BitVec.ofNat 8 payload.length, code] ++ payload ++ l).getD 0 0 = kind :=
        rfl
      rw [hfirst, FrameKind.taken_eq_none hkind]
  case header =>
    rw [exec_garbledFrame p _ hreset, State.receiveLine_long_header s p kind tag code hlong hrx]
  case idle =>
    rw [exec_garbledFrame p _ hreset]
    have hpass : rxByte (s.port p).rx ⟨b, stop⟩ = (none, .quiet) := by
      rw [hrx, rxByte]
      exact if_pos hb
    have hidle : ({ s.port p with rx := none } : Port) = s.port p := by rw [← hrx]
    simp only [State.receiveLine, List.foldl_cons, List.foldl_nil, State.receiveByte, hpass]
    rw [hidle, State.setPort_self]

/-! ### The transmit side (R160, R184) -/

/-- Settles O7: frames join at the tail and leave at the head; a notice reaches the ports of its kind. -/
theorem portsSendInOrderAndNoticesGoToTheirPortSet : Obligations.PortsSendInOrderAndNoticesGoToTheirPortSet := by
  refine ⟨fun p s => ⟨fun f => ?_, fun hreset f rest htx => ?_⟩, fun s k name detail p => ⟨fun hon hport => ?_,
    fun hoff => ?_, ?_⟩⟩
  · simp [State.hand, Port.hand]
  · refine congrArg Host.Outcome.next ((State.unlessReset_high hreset _).trans ?_)
    rw [htx]
    rfl
  · rw [State.port_raise, if_pos ⟨hon, hport⟩]
    unfold Port.handNotice
    exact ⟨fun hfew => if_pos hfew, fun hmany => if_neg (by simpa using hmany)⟩
  · rw [State.port_raise, if_neg]
    rintro ⟨hon, hport⟩
    rcases hoff with hoff | hoff <;> simp_all
  · unfold State.raise
    split <;> rfl

end Sys2Proof.Machine
end

section
/-! Readings that arrive at the ports (R69 to R71, R127, R128, R165, R174), and the arbiter's choice (R167). -/

namespace Sys2Proof.Machine

/-! ### The values of a reading (R69, R127, R174) -/

/-- A byte's bit as a bit of its number. -/
theorem testBit_toNat (b : Byte) (i : Nat) : b.toNat.testBit i = b.getLsbD i := rfl

/-- A READING frame of code 0 and its port's length on an idle line is dealt with as a reading (R159, R165). -/
theorem exec_readingFrame {s : State} {p : PortId} {payload : List Byte} (tag : Byte) (hreset : s.resetLow = false)
    (hrx : (s.port p).rx = none) (hlength : payload.length ≤ 64) :
    exec (.readingFrame p tag payload) s =
      .next (if readingGarbled (s.port p).role ⟨.reading, tag, 0, payload⟩ then s.setGarbled p
        else s.takeReading p payload) :=
  congrArg Host.Outcome.next ((State.unlessReset_high hreset _).trans
    (s.receiveLine_line p ⟨.reading, tag, 0, payload⟩ hlength hrx))

/-- A reading of the length of its port's role is not garbled (R159). -/
theorem readingGarbled_of_length {role : Role} {payload : List Byte} (tag : Byte)
    (h : ∀ n ∈ role.readingLength, n = payload.length) :
    readingGarbled role ⟨.reading, tag, 0, payload⟩ = false := by
  rw [← Bool.not_eq_true, readingGarbled_iff]
  rintro (hcode | ⟨n, hn, hne⟩)
  · exact hcode rfl
  · exact hne (h n hn)

/-- A reading of its port's length on an idle line is taken (R165). -/
theorem exec_readingFrame_taken {s : State} {p : PortId} {payload : List Byte} (tag : Byte)
    (hreset : s.resetLow = false) (hrx : (s.port p).rx = none) (hlength : payload.length ≤ 64)
    (h : ∀ n ∈ (s.port p).role.readingLength, n = payload.length) :
    exec (.readingFrame p tag payload) s = .next (s.takeReading p payload) := by
  rw [exec_readingFrame tag hreset hrx hlength, readingGarbled_of_length tag h]
  rfl

/-! ### Readings of the run-in channels (R70, R71) -/

/-- A reading at the port of a RUNNING run-in channel is queued or counted. -/
theorem State.takeReading_runIn {s : State} {p : PortId} {c : RunInCh} (hrole : (s.port p).role = c.id.role)
    (hrunning : (s.chan c.id).state = .running) (payload : List Byte) :
    s.takeReading p payload = s.queueRunIn c (runInReadingOf payload) := by
  cases c
  · rw [State.takeReading, hrole]
    exact if_pos hrunning
  · rw [State.takeReading, hrole]
    exact if_pos hrunning

/-- One of the five counters has reached the limit. -/
theorem anyReached_iff (n : Five Nat) (limit : Nat) :
    anyReached n limit = true ↔ ∃ x ∈ [n.speed, n.torque, n.oil, n.bearing1, n.bearing2], limit ≤ x := by
  simp [anyReached, or_assoc]

/-- Settles O8: the bytes by their places; the queue by its length. -/
theorem runInReadingIsQueuedOrCounted : Obligations.RunInReadingIsQueuedOrCounted := by
  refine ⟨fun tag valid v2 v3 v4 v5 v6 v7 v8 v9 v10 v11 => ?_, fun c p tag payload s hreset hrx hrole hlength hrunning => ?_⟩
  · have hvalid : byteAt [tag, valid, v2, v3, v4, v5, v6, v7, v8, v9, v10, v11] 1 = valid.toNat := rfl
    have hpair (i : Nat) : field [tag, valid, v2, v3, v4, v5, v6, v7, v8, v9, v10, v11] i 2 =
        ([tag, valid, v2, v3, v4, v5, v6, v7, v8, v9, v10, v11].drop i).take 2 := rfl
    refine ⟨rfl, ?_, ?_, ?_, ?_, ?_⟩ <;>
      simp only [runInReadingOf, hvalid, hpair, validValue_eq, testBit_toNat, List.drop_succ_cons, List.drop_zero,
        List.take_succ_cons, List.take_zero, natOf_two, intOf_two]
    push_cast
    rfl
  · have hshape : ∀ n ∈ (s.port p).role.readingLength, n = payload.length := by
      rw [hrole, hlength]
      cases c <;> simp [RunInCh.id, ChannelId.role, Role.readingLength]
    have hexec : exec (.readingFrame p tag payload) s = .next (s.queueRunIn c (runInReadingOf payload)) := by
      rw [exec_readingFrame_taken tag hreset hrx (by omega) hshape, State.takeReading_runIn hrole hrunning]
    refine ⟨fun hfew => hexec.trans (congrArg _ (if_pos hfew)), fun hmany => ?_⟩
    have hfull : s.queueRunIn c (runInReadingOf payload) = _ := if_neg (Nat.not_lt.mpr hmany)
    rw [hexec, hfull]
    refine ⟨fun hbelow => ?_, fun hreached => ?_⟩
    · refine congrArg _ (if_neg ?_)
      rw [anyReached_iff]
      rintro ⟨x, hx, hle⟩
      exact absurd (hbelow x hx) (Nat.not_lt.mpr hle)
    · exact congrArg _ (if_pos ((anyReached_iff _ _).mpr hreached))

/-! ### Readings of the leak channels, and readings passed over (R128, R159, R165) -/

/-- A reading at the port of a RUNNING leak channel is queued or discarded. -/
theorem State.takeReading_leak {s : State} {p : PortId} {c : LeakCh} (hrole : (s.port p).role = c.id.role)
    (hrunning : (s.chan c.id).state = .running) (payload : List Byte) :
    s.takeReading p payload = s.queueLeak c (leakReadingOf payload) := by
  cases c
  · rw [State.takeReading, hrole]
    exact if_pos hrunning
  · rw [State.takeReading, hrole]
    exact if_pos hrunning

/-- A reading for a channel that is not RUNNING is discarded (R165). -/
theorem State.takeReading_idle {s : State} {p : PortId} {c : ChannelId} (hrole : (s.port p).role = c.role)
    (hstate : (s.chan c).state ≠ .running) (payload : List Byte) : s.takeReading p payload = s := by
  unfold State.takeReading
  rw [hrole]
  cases c
  case n => rfl
  all_goals exact if_neg hstate

/-- A reading at a port whose role takes none is discarded (R165). -/
theorem State.takeReading_none {s : State} {p : PortId} (hrole : (s.port p).role.readingLength = none)
    (payload : List Byte) : s.takeReading p payload = s := by
  unfold State.takeReading
  cases hr : (s.port p).role
  case supervisor | unassigned | entry | exit | noise => rfl
  all_goals
    rw [hr] at hrole
    cases hrole

/-- A leak reading from its 7 bytes (R127, R174). -/
theorem leakReadingOf_bytes (valid p3 p2 p1 p0 t1 t0 : Byte) :
    leakReadingOf [valid, p3, p2, p1, p0, t1, t0] =
      if valid.getLsbD 0 = true ∧ (0 ≤ intOf [p3, p2, p1, p0] ∧ intOf [p3, p2, p1, p0] ≤ 1000000) ∧
        -4000 ≤ intOf [t1, t0] ∧ intOf [t1, t0] ≤ 15000
      then some ⟨(intOf [p3, p2, p1, p0]).toNat, intOf [t1, t0]⟩ else none := by
  have hpressure : field [valid, p3, p2, p1, p0, t1, t0] 1 4 = [p3, p2, p1, p0] := rfl
  have htemperature : field [valid, p3, p2, p1, p0, t1, t0] 5 2 = [t1, t0] := rfl
  have hvalid : byteAt [valid, p3, p2, p1, p0, t1, t0] 0 = valid.toNat := rfl
  simp only [leakReadingOf, hpressure, htemperature, hvalid, validValue_eq, testBit_toNat]
  by_cases hp : valid.getLsbD 0 = true ∧ 0 ≤ intOf [p3, p2, p1, p0] ∧ intOf [p3, p2, p1, p0] ≤ 1000000
  · by_cases ht : -4000 ≤ intOf [t1, t0] ∧ intOf [t1, t0] ≤ 15000
    · rw [if_pos hp, if_pos ⟨hp.1, ht⟩, if_pos ⟨hp.1, hp.2, ht⟩]
    · rw [if_pos hp, if_neg (fun h => ht h.2), if_neg (fun h => ht h.2.2)]
  · have hall (h : valid.getLsbD 0 = true ∧ (0 ≤ intOf [p3, p2, p1, p0] ∧ intOf [p3, p2, p1, p0] ≤ 1000000) ∧
        -4000 ≤ intOf [t1, t0] ∧ intOf [t1, t0] ≤ 15000) : False := hp ⟨h.1, h.2.1⟩
    rw [if_neg hp, if_neg hall]

/-- Settles O9: the reading by its port's role and by its channel's state and queue. -/
theorem readingIsQueuedForItsRunningChannelOrDiscarded : Obligations.ReadingIsQueuedForItsRunningChannelOrDiscarded := by
  refine ⟨fun valid p3 p2 p1 p0 t1 t0 => ?_, fun p tag payload s hreset hrx hlength =>
    ⟨fun c hrole hseven hrunning => ?_, fun c hrole hlen hstate => ?_, fun hnone => ?_, fun n hn hne => ?_⟩⟩
  · rw [leakReadingOf_bytes, intOf_four, intOf_two]
  · have hshape : ∀ n ∈ (s.port p).role.readingLength, n = payload.length := by
      rw [hrole, hseven]
      cases c <;> simp [LeakCh.id, ChannelId.role, Role.readingLength]
    rw [exec_readingFrame_taken tag hreset hrx hlength hshape, State.takeReading_leak hrole hrunning]
    refine ⟨fun hroom => congrArg _ (if_pos hroom), fun hno => congrArg _ (if_neg ?_)⟩
    rintro ⟨hphase, hroom⟩
    rcases hno with hno | hno
    · exact hphase hno
    · exact absurd hroom (Nat.not_lt.mpr hno)
  · rw [exec_readingFrame_taken tag hreset hrx hlength (by rw [hlen]; rintro n ⟨⟩; rfl),
      State.takeReading_idle hrole hstate]
  · rw [exec_readingFrame_taken tag hreset hrx hlength (by rw [hnone]; rintro n ⟨⟩), State.takeReading_none hnone]
  · rw [exec_readingFrame tag hreset hrx hlength, (readingGarbled_iff _ _).mpr (.inr ⟨n, hn, hne⟩)]
    rfl

/-! ### The arbiter's choice (R167) -/

/-- A search through a list in which each value stands once, at its rank, finds the value of least rank. -/
theorem find?_eq_some_iff_rank {α : Type} {l : List α} {rank : α → Nat} (hrank : ∀ i x, l[i]? = some x ↔ i = rank x)
    (P : α → Bool) (x : α) : l.find? P = some x ↔ P x = true ∧ ∀ y, P y = true → rank x ≤ rank y := by
  rw [List.find?_eq_some_iff_getElem]
  have hat {i : Nat} (hi : i < l.length) : rank l[i] = i :=
    ((hrank i l[i]).mp (List.getElem?_eq_getElem hi)).symm
  refine and_congr_right fun _ => ⟨?_, fun hleast => ?_⟩
  · rintro ⟨i, hi, rfl, hbefore⟩ y hy
    rw [hat hi]
    by_contra hlt
    have hy' : rank y < l.length := by omega
    have hval : l[rank y] = y := Option.some.inj ((List.getElem?_eq_getElem hy').symm.trans ((hrank _ y).mpr rfl))
    have hnot := hbefore (rank y) (by omega)
    rw [hval, hy] at hnot
    cases hnot
  · obtain ⟨hi, hval⟩ := List.getElem?_eq_some_iff.mp ((hrank _ x).mpr rfl)
    refine ⟨rank x, hi, hval, fun j hj => ?_⟩
    have hlt : j < l.length := hj.trans hi
    by_contra hP
    have hle := hleast l[j] (by simpa using hP)
    rw [hat hlt] at hle
    omega

/-- Port n stands at place n of the ports. -/
theorem allPorts_rank (i : Nat) (p : PortId) : allPorts[i]? = some p ↔ i = p.val := by
  by_cases hi : i < 8
  · interval_cases i <;> revert p <;> decide
  · rw [List.getElem?_eq_none (by simpa [allPorts] using hi)]
    exact ⟨nofun, fun h => absurd p.isLt (h ▸ hi)⟩

/-- A port stands in the rotation at the place of its turn (R167). -/
theorem rotation_rank (last : PortId) (i : Nat) (p : PortId) : (rotation last)[i]? = some p ↔ i = turns last p := by
  by_cases hi : i < 8
  · interval_cases i <;> revert last p <;> decide
  · have hturn : turns last p < 8 := Nat.mod_lt _ (by decide)
    rw [List.getElem?_eq_none (by simpa [rotation] using hi)]
    exact ⟨nofun, fun h => absurd hturn (h ▸ hi)⟩

/-- The greatest number of a list and a start is at least each of them, and one of them. -/
theorem foldl_max_spec (l : List Nat) (a : Nat) :
    a ≤ l.foldl max a ∧ (∀ x ∈ l, x ≤ l.foldl max a) ∧ (l.foldl max a = a ∨ l.foldl max a ∈ l) := by
  induction l generalizing a with
  | nil => simp
  | cons x l ih =>
    obtain ⟨hstart, hall, hone⟩ := ih (max a x)
    rw [List.foldl_cons]
    refine ⟨(le_max_left a x).trans hstart, fun y hy => ?_, ?_⟩
    · rcases List.mem_cons.mp hy with rfl | hy
      · exact (le_max_right a y).trans hstart
      · exact hall y hy
    · rcases hone with hone | hone
      · rcases max_choice a x with hmax | hmax
        · exact .inl (hone.trans hmax)
        · exact .inr (by rw [hone, hmax]; exact List.mem_cons_self)
      · exact .inr (List.mem_cons_of_mem _ hone)

/-- Every port is among the ports. -/
theorem mem_allPorts (p : PortId) : p ∈ allPorts := by
  revert p
  decide

/-- The highest priority is at least that of each port that holds a request (R167). -/
theorem State.priority_le_top (s : State) {q : PortId} (hq : s.holds q = true) : s.priority q ≤ s.topPriority :=
  (foldl_max_spec _ 0).2.1 _ (List.mem_map_of_mem (List.mem_filter.mpr ⟨mem_allPorts q, hq⟩))

/-- The highest priority is that of a port that holds a request, if one does (R167). -/
theorem State.exists_top (s : State) {p : PortId} (hp : s.holds p = true) :
    ∃ q, s.holds q = true ∧ s.priority q = s.topPriority := by
  rcases (foldl_max_spec ((allPorts.filter s.holds).map s.priority) 0).2.2 with hzero | hmem
  · have htop : s.topPriority = 0 := hzero
    have hle := s.priority_le_top hp
    exact ⟨p, hp, by omega⟩
  · obtain ⟨q, hq, heq⟩ := List.mem_map.mp hmem
    exact ⟨q, (List.mem_filter.mp hq).2, heq⟩

/-- The search among the ports of the highest priority finds the one of least rank among them (R167). -/
theorem State.find_top_iff (s : State) {l : List PortId} {rank : PortId → Nat}
    (hrank : ∀ i x, l[i]? = some x ↔ i = rank x) {p : PortId} (hp : s.holds p = true) :
    (l.find? fun q => s.holds q && s.priority q == s.topPriority) = some p ↔
      ∀ q, s.holds q = true → s.priority q < s.priority p ∨ (s.priority q = s.priority p ∧ rank p ≤ rank q) := by
  rw [find?_eq_some_iff_rank hrank]
  simp only [hp, Bool.true_and, Bool.and_eq_true, beq_iff_eq]
  constructor
  · rintro ⟨htop, hleast⟩ q hq
    have hle := s.priority_le_top hq
    rcases Nat.lt_or_eq_of_le hle with hlt | heq
    · exact .inl (htop ▸ hlt)
    · exact .inr ⟨heq.trans htop.symm, hleast q ⟨hq, heq⟩⟩
  · intro hbest
    obtain ⟨m, hm, hmtop⟩ := s.exists_top hp
    have htop : s.priority p = s.topPriority := by
      have hle := s.priority_le_top hp
      rcases hbest m hm with hlt | ⟨heq, _⟩ <;> omega
    refine ⟨htop, fun q hq => ?_⟩
    rcases hbest q hq.1 with hlt | ⟨_, hle⟩
    · have := hq.2
      omega
    · exact hle

/-- The granted port is the one of the scheme (R167, Table 9-5). -/
theorem State.grantedPort_iff (s : State) {p : PortId} (hp : s.holds p = true) :
    s.grantedPort = some p ↔ ∀ q : PortId, s.holds q = true →
      match s.arbiter.scheme with
      | .rotating => turns s.arbiter.lastGranted p ≤ turns s.arbiter.lastGranted q
      | .fixed => s.priority q < s.priority p ∨ (s.priority q = s.priority p ∧ p ≤ q)
      | .grouped => s.priority q < s.priority p ∨ (s.priority q = s.priority p ∧
          turns s.arbiter.lastGranted p ≤ turns s.arbiter.lastGranted q)
      | .portOrder => p ≤ q := by
  unfold State.grantedPort
  cases s.arbiter.scheme
  case rotating => exact (find?_eq_some_iff_rank (rotation_rank _) _ p).trans (and_iff_right hp)
  case fixed => exact s.find_top_iff allPorts_rank hp
  case grouped => exact s.find_top_iff (rotation_rank _) hp
  case portOrder => exact (find?_eq_some_iff_rank allPorts_rank _ p).trans (and_iff_right hp)

/-- With no posting, a request is granted where its port is (R167). -/
theorem State.grant_eq_request_iff {s : State} (hnone : s.arbiter.postings = []) {p : PortId} {h : Held}
    (hp : (s.port p).held = some h) : s.grant = some (.request p h) ↔ s.grantedPort = some p := by
  unfold State.grant
  rw [hnone]
  dsimp only
  cases hg : s.grantedPort with
  | none => simp
  | some q =>
    by_cases hq : q = p
    · subst hq; simp [hp]
    · cases (s.port q).held <;> simp [hq]

/-- Settles O10: postings first, then the port of least rank by the scheme. -/
theorem theArbiterGrantsByItsScheme : Obligations.TheArbiterGrantsByItsScheme := by
  refine fun s => ⟨fun q rest hq => ?_, fun hnone hheld => ?_, fun hnone p h hp => ?_, fun p => rfl⟩
  · rw [State.grant, hq]
  · have hno : s.grantedPort.bind (fun p => (s.port p).held.map fun r => Grant.request p r) = none := by
      cases s.grantedPort with
      | none => rfl
      | some p => simp [hheld p]
    rw [State.grant, hnone]
    exact hno
  · rw [State.grant_eq_request_iff hnone hp, s.grantedPort_iff (by rw [State.holds, hp]; rfl)]
    rfl

end Sys2Proof.Machine
end

section
/-! ADMIT's effect (R16), and what a port keeps while frames are handed to it (R160, R184). -/

namespace Sys2Proof.Machine

/-! ### What a port keeps while frames join its transmit side (R160) -/

/-- Frames have joined a port's transmit side, or notices have been lost there: all else is as it was. -/
structure Port.Grew (a b : Port) : Prop where
  role : b.role = a.role
  rx : b.rx = a.rx
  garbled : b.garbled = a.garbled
  held : b.held = a.held
  tx : a.tx <+: b.tx
  overrun : a.overrun = true → b.overrun = true

/-- A port that stays has grown by nothing. -/
theorem Port.Grew.refl (a : Port) : a.Grew a := ⟨rfl, rfl, rfl, rfl, List.prefix_rfl, id⟩

/-- What has grown twice has grown. -/
theorem Port.Grew.trans {a b c : Port} (h : a.Grew b) (k : b.Grew c) : a.Grew c :=
  ⟨k.role.trans h.role, k.rx.trans h.rx, k.garbled.trans h.garbled, k.held.trans h.held, h.tx.trans k.tx,
    fun ho => k.overrun (h.overrun ho)⟩

/-- A frame handed to a port joins its transmit side (R160). -/
theorem Port.grew_hand (q : Port) (f : Frame) : q.Grew (q.hand f) :=
  ⟨rfl, rfl, rfl, rfl, List.prefix_append _ _, id⟩

/-- A notice handed to a port joins its transmit side or is lost (R160). -/
theorem Port.grew_handNotice (q : Port) (f : Frame) : q.Grew (q.handNotice f) := by
  unfold Port.handNotice
  split
  · exact q.grew_hand f
  · exact ⟨rfl, rfl, rfl, rfl, List.prefix_rfl, fun _ => rfl⟩

/-- A raised notice leaves the ports but for their transmit sides and overrun flags (R184). -/
theorem State.grew_raise (s : State) (k : NoticeKind) (name : List Byte) (d : Byte) (q : PortId) :
    (s.port q).Grew ((s.raise k name d).port q) := by
  rw [State.port_raise]
  split
  · exact Port.grew_handNotice _ _
  · exact .refl _

/-- A recomputation leaves the ports but for their transmit sides and overrun flags (R146). -/
theorem State.grew_recompute (s : State) (i : SlotId) (q : PortId) : (s.port q).Grew ((s.recompute i).port q) := by
  unfold State.recompute
  split
  · split
    · exact .refl _
    · exact State.grew_raise (s.setFile i _) _ _ _ q
  · exact .refl _

/-- The asking port after its answer: the answer joins its transmit side, and its hold ends (R163). -/
theorem State.port_answer (s : State) (p : PortId) (tag : Byte) (code : AnswerCode) (data : List Byte) (q : PortId) :
    (s.answer p tag code data).port q =
      if p = q then { (s.port p).hand (answerFrame tag code data) with held := none } else s.port q :=
  State.port_setPort _ _ _ _

/-! ### ADMIT (R16) -/

/-- The slots stand in order of their numbers. -/
theorem allSlots_rank (k : Nat) (i : SlotId) : allSlots[k]? = some i ↔ k = i.val := by
  unfold allSlots
  by_cases hk : k < 48
  · rw [List.getElem?_eq_getElem (by simpa using hk), Option.some_inj, List.getElem_finRange]
    exact ⟨fun h => congrArg Fin.val h, fun h => Fin.ext h⟩
  · rw [List.getElem?_eq_none (by simpa using hk)]
    exact ⟨nofun, fun h => absurd i.isLt (h ▸ hk)⟩

/-- The free slot is the one with no live file and every lower one live (R1). -/
theorem State.freeSlot_eq_some {s : State} {i : SlotId} (hi : s.file i = none)
    (hlow : ∀ j : SlotId, j < i → (s.file j).isSome = true) : s.freeSlot = some i := by
  refine (find?_eq_some_iff_rank allSlots_rank _ i).mpr ⟨by simp [hi], fun j hj => ?_⟩
  by_contra hlt
  have hlive := hlow j (Nat.lt_of_not_le hlt)
  cases hf : s.file j with
  | none => rw [hf] at hlive; cases hlive
  | some f => rw [hf] at hj; cases hj

/-- The slots after a file is opened: the opened one holds the new file with no word in error (R16, R178). -/
theorem State.slot_openFile (s : State) (i : SlotId) (serial : Serial) (v : Word) (b : BankId) (j : SlotId) :
    (s.openFile i serial v b).slot j = if i = j then ⟨(s.slot i).gen,
      some ⟨serial, v, nextOrder s.engine.admissions, b, [], .pending, some (.fresh (s.bank b).contents)⟩, []⟩
      else s.slot j :=
  State.slot_setSlot _ _ _ _

/-- The banks after a file is opened: its bank has one user more (R16, R27). -/
theorem State.bank_openFile (s : State) (i : SlotId) (serial : Serial) (v : Word) (b k : BankId) :
    (s.openFile i serial v b).bank k =
      if b = k then { s.bank b with users := (s.bank b).users + 1 } else s.bank k :=
  State.bank_setBank _ _ _ _

/-- Settles O13: the file of steps 1 to 8 with its verdict, and the ports but for the answer and the notice. -/
theorem admitOpensTheFile : Obligations.AdmitOpensTheFile := by
  intro s p h serial v i b hg hs hp hserial hnew hfree hlow hchoose hready
  have hslot : (s.granting p).freeSlot = some i := State.freeSlot_eq_some hfree hlow
  have hdone := admitItem_done (s.granting p) p v hs hserial hnew hslot hchoose hready
  refine ⟨_, (exec_admitAxle s).symm ▸ State.serve_answers hg (hp ▸ hdone), ?_⟩
  set u := (s.granting p).openFile i serial v b with hu
  have huslot : u.slot i = _ := (State.slot_openFile (s.granting p) i serial v b i).trans (if_pos rfl)
  have hfile := State.file_recompute_self u i _ (State.file_openFile (s.granting p) i serial v b)
  have hslots (j) : ((u.recompute i).answer p h.tag .done
      (((s.granting p).handleOf i).bytes ++ bytesOf 2 (nextOrder (s.granting p).engine.admissions))).slot j =
      (u.recompute i).slot j := rfl
  have hbanks (k) : ((u.recompute i).answer p h.tag .done
      (((s.granting p).handleOf i).bytes ++ bytesOf 2 (nextOrder (s.granting p).engine.admissions))).bank k =
      u.bank k := by simp [State.bank, State.answer]
  have hgrew (q) : (s.port q).Grew ((u.recompute i).port q) := u.grew_recompute i q
  obtain ⟨hindex, horder, hadmissions, hstray⟩ := u.recompute_index i
  refine ⟨⟨_, hfile, rfl, rfl, rfl, rfl, rfl, rfl, rfl⟩, ?_, ?_, fun j hj => ?_, hadmissions, hindex, horder, ?_,
    fun k hk => ?_, ?_, fun q => ?_, ?_, ?_, ?_, ?_, ?_, ?_, ?_, ?_, ?_, ?_, ?_, ?_, hstray⟩
  · rw [hslots, State.gen_recompute, huslot]; rfl
  · rw [hslots, State.errors_recompute, huslot]
  · rw [hslots, State.slot_recompute _ _ _ hj, State.slot_openFile, if_neg hj.symm]; rfl
  · rw [hbanks, State.bank_openFile, if_pos rfl]; rfl
  · rw [hbanks, State.bank_openFile, if_neg hk.symm]; rfl
  · exact (State.setPort_arbiter _ _ _).trans (State.recompute_arbiter _ _)
  · obtain ⟨hrole, hrx, hgarbled, hheld, htx, hoverrun⟩ := hgrew q
    rw [State.port_answer]
    split
    · next hpq =>
      subst hpq
      refine ⟨?_, htx.trans (List.prefix_append _ _), hoverrun, fun hq => absurd rfl hq⟩
      simp only [Port.hand, hrole, hrx, hgarbled]
    · refine ⟨?_, htx, hoverrun, fun _ => hheld⟩
      simp only [hrole, hrx, hgarbled]
  · rw [State.port_answer, if_pos rfl]
  · rw [State.port_answer, if_pos rfl]
    exact List.getLast?_concat
  all_goals
    simp only [State.answer, State.setPort_chans, State.setPort_monitors, State.setPort_noise, State.setPort_input,
      State.setPort_leaks, State.setPort_audio, State.setPort_router, State.setPort_store, State.recompute_chans,
      State.recompute_monitors, State.recompute_noise, State.recompute_input, State.recompute_leaks,
      State.recompute_audio, State.recompute_router, State.recompute_store]
    rfl

end Sys2Proof.Machine
end

section
/-! Requests on a file by its serial, and the requests that only read (R14, R17 to R19, R37, R43, R104, R151, R175,
R182). -/

namespace Sys2Proof.Machine

/-! ### Requests by serial or handle (R2, R9, R14) -/

/-- A granted reading request whose item replies a code on the state it was given is refused with that code (R163). -/
theorem State.serveReading_refuses {s : State} {r : Request} {ds : Disturbances}
    {item : PortId → List Byte → State → Reply} {p : PortId} {h : Held} {code : AnswerCode}
    (hg : (s.disturb ds).grants r p h)
    (hi : item p h.payload ((s.disturb ds).granting p) = ((s.disturb ds).granting p).reply code) :
    (Host.Outcome.next (s.serveReading r ds item) : Outcome) = .next ((s.disturb ds).refuses p h code) :=
  State.serveReading_answers hg hi

/-- A request on a serial the index does not find is answered UNKNOWN (R9). -/
theorem State.onSerial_unknown {s : State} {serial : Serial} (hs : s.find serial = none) (r : Request)
    (go : SlotId → FileRec → State → Reply) : s.onSerial r serial go = s.reply .unknown := by
  unfold State.onSerial
  rw [hs]

/-- A request on a live file's serial goes on with the file as its read left it (R9, R14). -/
theorem State.onSerial_found {s : State} {serial : Serial} {i : SlotId} (hs : s.find serial = some i) {r : Request}
    {f : FileRec} (hf : (s.readFile (.request r) i).file i = some f) (go : SlotId → FileRec → State → Reply) :
    s.onSerial r serial go = go i f (s.readFile (.request r) i) := by
  unfold State.onSerial
  rw [hs]
  dsimp only
  rw [hf]

/-- The read of a file keeps the order of the line (R11). -/
theorem State.position_readFile (s : State) (item : CaptureItem) (i j : SlotId) :
    (s.readFile item i).position j = s.position j := by
  unfold State.position
  rw [(s.readFile_index item i).2.1]

/-- The read of a file keeps the number of live files (R11). -/
theorem State.liveCount_readFile (s : State) (item : CaptureItem) (i : SlotId) :
    (s.readFile item i).liveCount = s.engine.lineOrder.length := by
  unfold State.liveCount
  rw [(s.readFile_index item i).2.1]

/-! ### The file summary (R175) -/

/-- The bytes of a file summary between the serial and the holds. -/
def FileRec.headBytes (f : FileRec) (h : Handle) : List Byte :=
  h.bytes ++ bytesOfWord f.variant ++ bytesOf 2 f.order ++ bytesOf 1 f.bank.val ++ [f.verdict.byte, boolByte f.damaged] ++
    bytesOf 1 f.holds.length

/-- The four bytes of the holds of a file summary. -/
def FileRec.holdBytes (f : FileRec) : List Byte :=
  f.holds.map (BitVec.ofNat 8) ++ List.replicate (4 - f.holds.length) 0

/-- The bytes of a file summary that come from the stage records. -/
def FileRec.stageBytes (f : FileRec) : List Byte :=
  match f.records with
  | some rs => f.activeBytes ++ rs.runin.brief ++ rs.noise.brief ++ rs.leak.brief
  | none => bytesOf 11 0

/-- A file summary part by part (R175). -/
theorem FileRec.summary_eq (f : FileRec) (h : Handle) (position : Nat) :
    f.summary h position =
      f.serial ++ (f.headBytes h ++ (f.holdBytes ++ ([BitVec.ofNat 8 position] ++ f.stageBytes))) := by
  have hone (n : Nat) : bytesOf 1 n = [BitVec.ofNat 8 n] := by simp [bytesOf]
  have hholds (l : List Nat) : l.flatMap (bytesOf 1) = l.map (BitVec.ofNat 8) := by
    induction l with
    | nil => rfl
    | cons n l ih => rw [List.flatMap_cons, hone, ih]; rfl
  simp only [FileRec.summary, FileRec.headBytes, FileRec.holdBytes, FileRec.stageBytes, hholds, hone, List.map_append,
    List.map_replicate, List.append_assoc]
  rfl

/-- The head of a file summary is 12 bytes. -/
theorem FileRec.headBytes_length (f : FileRec) (h : Handle) : (f.headBytes h).length = 12 := rfl

/-- The holds of a file summary are 4 bytes. -/
theorem FileRec.holdBytes_length {f : FileRec} (h : f.holds.length ≤ 4) : f.holdBytes.length = 4 := by
  simp only [FileRec.holdBytes, List.length_append, List.length_map, List.length_replicate]
  omega

/-- The active stage's two bytes. -/
theorem FileRec.activeBytes_length (f : FileRec) : f.activeBytes.length = 2 := by
  unfold FileRec.activeBytes
  split <;> rfl

/-- The stage part of a file summary is 11 bytes. -/
theorem FileRec.stageBytes_length (f : FileRec) : f.stageBytes.length = 11 := by
  unfold FileRec.stageBytes
  split
  · simp [FileRec.activeBytes_length, StageRecord.brief, bytesOf_length]
  · rfl

/-- A file without active stage has two 0 bytes for it (R175). -/
theorem FileRec.activeBytes_of_none {f : FileRec} {rs : StageRecords} (hrs : f.records = some rs)
    (h : ∀ t : Stage, (rs.get t).state.active = false) : f.activeBytes = [0, 0] := by
  simp [FileRec.activeBytes, FileRec.activeStage, hrs, h]

/-- A file with one active stage names it with its channel (R7, R175). -/
theorem FileRec.activeBytes_of_active {f : FileRec} {rs : StageRecords} (hrs : f.records = some rs) {t : Stage}
    (h : (rs.get t).state.active = true) (hothers : ∀ u : Stage, u ≠ t → (rs.get u).state.active = false) :
    f.activeBytes = [t.byte, channelByte (rs.get t).channel] := by
  have hfind : ([Stage.runin, .noise, .leak].find? fun u => (rs.get u).state.active) = some t := by
    cases t <;> simp_all
  simp [FileRec.activeBytes, FileRec.activeStage, hrs, hfind]

section
variable {f : FileRec} (h : Handle) (position : Nat) (hs : f.serial.length = 12) (hh : f.holds.length ≤ 4)

/-- A field of the head of a file summary. -/
theorem FileRec.field_summary_head (hs : f.serial.length = 12) {off n : Nat} (hoff : off + n ≤ 12) :
    field (f.summary h position) (12 + off) n = field (f.headBytes h) off n := by
  rw [FileRec.summary_eq, field_append_of_length_le (by omega), hs, Nat.add_sub_cancel_left]
  unfold field
  rw [List.drop_append_of_le_length (by rw [FileRec.headBytes_length]; omega),
    List.take_append_of_le_length (by rw [List.length_drop, FileRec.headBytes_length]; omega)]

/-- What follows the head of a file summary. -/
theorem FileRec.field_summary_tail (hs : f.serial.length = 12) (off n : Nat) :
    field (f.summary h position) (24 + off) n =
      field (f.holdBytes ++ ([BitVec.ofNat 8 position] ++ f.stageBytes)) off n := by
  rw [FileRec.summary_eq, field_append_of_length_le (by omega), hs,
    field_append_of_length_le (by rw [FileRec.headBytes_length]; omega), FileRec.headBytes_length]
  congr 1
  omega

/-- What follows the position of a file summary. -/
theorem FileRec.drop_summary (hs : f.serial.length = 12) (hh : f.holds.length ≤ 4) (n : Nat) :
    (f.summary h position).drop (29 + n) = f.stageBytes.drop n := by
  have hfront : (f.serial ++ (f.headBytes h ++ (f.holdBytes ++ [BitVec.ofNat 8 position]))).length = 29 := by
    simp [hs, FileRec.headBytes_length, FileRec.holdBytes_length hh]
  have hsplit : f.summary h position =
      (f.serial ++ (f.headBytes h ++ (f.holdBytes ++ [BitVec.ofNat 8 position]))) ++ f.stageBytes := by
    rw [FileRec.summary_eq]
    simp
  rw [hsplit, List.drop_append, hfront, List.drop_eq_nil_of_le (by omega), List.nil_append, Nat.add_sub_cancel_left]

end

/-! ### The requests -/

/-- The width in use is the configured one, otherwise the detected one (R92, R104). -/
theorem State.widthInUse_eq (s : State) :
    s.widthInUse = if s.audio.width.isSome then s.audio.width else s.input.detected := by
  unfold State.widthInUse
  cases s.audio.width <;> rfl

/-- LOOKUP is served by its item. -/
theorem exec_lookup (ds : Disturbances) (s : State) :
    exec (.lookup ds) s = .next (s.serveReading .lookup ds lookupItem) := rfl

/-- REPORT is served by its item. -/
theorem exec_report (ds : Disturbances) (s : State) :
    exec (.report ds) s = .next (s.serveReading .report ds reportItem) := rfl

/-- LIST is served by its item. -/
theorem exec_list (ds : Disturbances) (s : State) : exec (.list ds) s = .next (s.serveReading .list ds listItem) := rfl

section
variable {s : State} {payload : List Byte} {i : SlotId} {f : FileRec} (p : PortId)

/-- LOOKUP of a serial the index does not find (R17). -/
theorem lookupItem_unknown (h : s.find (serialOf payload) = none) : lookupItem p payload s = s.reply .unknown :=
  State.onSerial_unknown h _ _

/-- LOOKUP answers the summary of the file as its read left it (R17). -/
theorem lookupItem_done (h : s.find (serialOf payload) = some i) (hf : (s.readFile (.request .lookup) i).file i = some f) :
    lookupItem p payload s =
      ⟨s.readFile (.request .lookup) i, .done, f.summary (s.handleOf i) (s.position i)⟩ := by
  refine (State.onSerial_found h hf _).trans ?_
  rw [State.handleOf_readFile, State.position_readFile]

/-- REPORT of a serial the index does not find (R151). -/
theorem reportItem_unknown (h : s.find (serialOf payload) = none) : reportItem p payload s = s.reply .unknown :=
  State.onSerial_unknown h _ _

/-- REPORT answers the report of the file as its read left it (R151). -/
theorem reportItem_done (h : s.find (serialOf payload) = some i) (hf : (s.readFile (.request .report) i).file i = some f) :
    reportItem p payload s = ⟨s.readFile (.request .report) i, .done, f.report (s.position i)⟩ := by
  refine (State.onSerial_found h hf _).trans ?_
  rw [State.position_readFile]

/-- LIST past the last live file (R19). -/
theorem listItem_range (h : s.engine.lineOrder[byteAt payload 0]? = none) :
    listItem p payload s = ⟨s, .range, bytesOf 1 s.engine.lineOrder.length⟩ := by
  rw [listItem, h]
  rfl

/-- LIST answers the file at a position as its read left it (R19). -/
theorem listItem_done (h : s.engine.lineOrder[byteAt payload 0]? = some i)
    (hf : (s.readFile (.request .list) i).file i = some f) :
    listItem p payload s = ⟨s.readFile (.request .list) i, .done, bytesOf 1 s.engine.lineOrder.length ++ f.serial ++
      (s.handleOf i).bytes ++ [f.verdict.byte] ++ f.activeBytes⟩ := by
  rw [listItem, h]
  dsimp only
  rw [hf]
  dsimp only
  rw [State.liveCount_readFile, State.handleOf_readFile]

end

/-- A bank or a window named by a byte below 8. -/
theorem below8_of_eq {n : Nat} {b : Fin 8} (h : n = b.val) : below8 n = some b := (below8_eq_some_iff n b).mpr h

/-- Settles O15: each request by its item, the summary by its parts. -/
theorem readingRequestsAnswerAndChangeNothingElse : Obligations.ReadingRequestsAnswerAndChangeNothingElse := by
  refine ⟨fun s₀ p h ds => ⟨fun hg => ?lookup, fun hg => ?report, fun hg => ?list⟩, ?summary,
    fun s p h => ⟨fun hg => ⟨fun hbad => ?_, fun b hb => ?_⟩, fun hg => ⟨fun hbad => ?_, fun i hi => ?_⟩, fun hg => ?_,
      fun hg => ?_⟩⟩
  case lookup =>
    rw [exec_lookup]
    exact ⟨fun hnone => State.serveReading_refuses hg (lookupItem_unknown p hnone),
      fun i f hi hf => State.serveReading_answers hg (lookupItem_done p hi hf)⟩
  case report =>
    rw [exec_report]
    exact ⟨fun hnone => State.serveReading_refuses hg (reportItem_unknown p hnone),
      fun i f hi hf => State.serveReading_answers hg (reportItem_done p hi hf)⟩
  case list =>
    rw [exec_list]
    exact ⟨fun hlen => State.serveReading_answers hg (listItem_range p (List.getElem?_eq_none hlen)),
      fun i f hi hf => State.serveReading_answers hg (listItem_done p hi hf)⟩
  case summary =>
    intro f at_ position hs hh
    have hhead {off n : Nat} (hoff : off + n ≤ 12) := f.field_summary_head at_ position hs hoff
    refine ⟨?_, ?_, hhead (off := 0) (by omega), hhead (off := 2) (by omega), hhead (off := 6) (by omega),
      (hhead (off := 8) (n := 4) (by omega)).trans ?_, ?_, ?_, fun hnone => ?_, fun rs hrs => ⟨?_, fun hoff => ?_,
        fun t ht hothers => ?_⟩⟩
    · rw [FileRec.summary_eq]
      simp [hs, FileRec.headBytes_length, FileRec.holdBytes_length hh, FileRec.stageBytes_length]
    · rw [FileRec.summary_eq]
      exact field_append_of_length_eq hs _
    · rw [← FileRec.boolByte_damaged]
      simp [FileRec.headBytes, field, Handle.bytes, bytesOfWord, bytesOf]
    · exact (f.field_summary_tail at_ position hs 0 4).trans
        (field_append_of_length_eq (FileRec.holdBytes_length hh) _)
    · rw [f.field_summary_tail at_ position hs 4 1, field_append_of_length_le (by rw [FileRec.holdBytes_length hh]),
        FileRec.holdBytes_length hh]
      rfl
    · have hdrop := f.drop_summary at_ position hs hh 0
      rw [hdrop, FileRec.stageBytes, hnone]
      rfl
    · have hdrop := f.drop_summary at_ position hs hh 2
      rw [hdrop, FileRec.stageBytes, hrs]
      simp only [List.append_assoc]
      rw [List.drop_append_of_le_length (by rw [FileRec.activeBytes_length]), List.drop_eq_nil_of_le
        (by rw [FileRec.activeBytes_length])]
      simp [StageRecord.brief, bytesOf]
    · have hdrop := f.drop_summary at_ position hs hh 0
      rw [field, hdrop, FileRec.stageBytes, hrs, FileRec.activeBytes_of_none hrs hoff]
      rfl
    · have hdrop := f.drop_summary at_ position hs hh 0
      rw [field, hdrop, FileRec.stageBytes, hrs, FileRec.activeBytes_of_active hrs ht hothers]
      rfl
  · refine State.serve_refuses (item := bankStatusItem) hg ?_
    rw [bankStatusItem, below8_of_seven_lt hbad]
  · refine State.serve_answers (item := bankStatusItem) hg ?_
    rw [bankStatusItem, below8_of_eq hb]
    rfl
  · refine State.serve_refuses (item := readWindowItem) hg ?_
    rw [readWindowItem, below8_of_seven_lt hbad]
  · refine State.serve_answers (item := readWindowItem) hg ?_
    rw [readWindowItem, below8_of_eq hi]
    rfl
  · refine State.serve_answers (item := audioStatusItem) hg ?_
    rw [audioStatusItem, State.widthInUse_eq]
    rfl
  · exact State.serve_answers (item := readCaptureItem) hg rfl

end Sys2Proof.Machine
end

section
/-! Holds (R20, R21), the reopening of a stage (R23, R24), and the verdict (R145, R146). -/

namespace Sys2Proof.Machine

/-! ### The byte that follows a serial (R20, R21, R23) -/

/-- The byte after a serial of 12 characters, as a number. -/
theorem byteAt_append_singleton {serial : Serial} (hs : serial.length = 12) (b : Byte) :
    byteAt (serial ++ [b]) 12 = b.toNat := by
  simp [byteAt, ← hs]

/-- The byte after a serial of 12 characters. -/
theorem getD_append_singleton {serial : Serial} (hs : serial.length = 12) (b : Byte) :
    (serial ++ [b]).getD 12 0 = b := by
  simp [← hs]

/-! ### HOLD FILE and LIFT HOLD (R20, R21) -/

/-- HOLD FILE is served by its item. -/
theorem exec_holdFile (ds : Disturbances) (s : State) :
    exec (.holdFile ds) s = .next (s.serveReading .holdFile ds holdFileItem) := rfl

/-- LIFT HOLD is served by its item. -/
theorem exec_liftHold (ds : Disturbances) (s : State) :
    exec (.liftHold ds) s = .next (s.serveReading .liftHold ds liftHoldItem) := rfl

/-- A byte of 1 to 15 is a hold reason, every other is none (R4). -/
theorem isReason_false {b : Byte} (h : b = 0 ∨ 15 < b.toNat) : isReason b.toNat = false := by
  rcases h with rfl | h
  · rfl
  · simp [isReason, h]

/-- A number of 1 to 15 is a hold reason (R4). -/
theorem isReason_true {n : Nat} (h1 : 1 ≤ n) (h15 : n ≤ 15) : isReason n = true := by
  simp [isReason, h1, h15]

section
variable {s : State} {serial : Serial} {b : Byte} {i : SlotId} {f : FileRec} (p : PortId) (hs : serial.length = 12)
include hs

/-- HOLD FILE refuses a number that is no reason (R20). -/
theorem holdFileItem_range (h : b = 0 ∨ 15 < b.toNat) : holdFileItem p (serial ++ [b]) s = s.reply .range := by
  simp [holdFileItem, byteAt_append_singleton hs, isReason_false h]

/-- LIFT HOLD refuses a number that is no reason (R21). -/
theorem liftHoldItem_range (h : b = 0 ∨ 15 < b.toNat) : liftHoldItem p (serial ++ [b]) s = s.reply .range := by
  simp [liftHoldItem, byteAt_append_singleton hs, isReason_false h]

variable (h1 : 1 ≤ b.toNat) (h15 : b.toNat ≤ 15)
include h1 h15

/-- HOLD FILE with a reason goes on by the serial (R20). -/
theorem holdFileItem_reason : holdFileItem p (serial ++ [b]) s =
    s.onSerial .holdFile serial fun i f s =>
      if f.holds.contains b.toNat then s.reply .done
      else if Config.holdLimit ≤ f.holds.length then s.reply .full
      else ((s.setFile i { f with holds := f.holds ++ [b.toNat] }).recompute i).reply .done := by
  simp [holdFileItem, byteAt_append_singleton hs, isReason_true h1 h15, serialOf_append hs]

/-- LIFT HOLD with a reason goes on by the serial (R21). -/
theorem liftHoldItem_reason : liftHoldItem p (serial ++ [b]) s =
    s.onSerial .liftHold serial fun i f s =>
      if f.holds.contains b.toNat then
        ((s.setFile i { f with holds := f.holds.erase b.toNat }).recompute i).reply .done
      else s.reply .state := by
  simp [liftHoldItem, byteAt_append_singleton hs, isReason_true h1 h15, serialOf_append hs]

/-- HOLD FILE of a serial the index does not find (R20). -/
theorem holdFileItem_unknown (h : s.find serial = none) : holdFileItem p (serial ++ [b]) s = s.reply .unknown := by
  rw [holdFileItem_reason p hs h1 h15, State.onSerial_unknown h]

/-- LIFT HOLD of a serial the index does not find (R21). -/
theorem liftHoldItem_unknown (h : s.find serial = none) : liftHoldItem p (serial ++ [b]) s = s.reply .unknown := by
  rw [liftHoldItem_reason p hs h1 h15, State.onSerial_unknown h]

/-- HOLD FILE on a live file: by whether the reason stands in its holds list, and by the list's length (R20). -/
theorem holdFileItem_found (hi : s.find serial = some i) (hf : (s.readFile (.request .holdFile) i).file i = some f) :
    holdFileItem p (serial ++ [b]) s =
      if b.toNat ∈ f.holds then (s.readFile (.request .holdFile) i).reply .done
      else if 4 ≤ f.holds.length then (s.readFile (.request .holdFile) i).reply .full
      else (((s.readFile (.request .holdFile) i).setFile i { f with holds := f.holds ++ [b.toNat] }).recompute i).reply
        .done := by
  rw [holdFileItem_reason p hs h1 h15, State.onSerial_found hi hf]
  exact if_congr List.contains_iff_mem rfl rfl

/-- LIFT HOLD on a live file: by whether the reason stands in its holds list (R21). -/
theorem liftHoldItem_found (hi : s.find serial = some i) (hf : (s.readFile (.request .liftHold) i).file i = some f) :
    liftHoldItem p (serial ++ [b]) s =
      if b.toNat ∈ f.holds then
        (((s.readFile (.request .liftHold) i).setFile i { f with holds := f.holds.erase b.toNat }).recompute i).reply .done
      else (s.readFile (.request .liftHold) i).reply .state := by
  rw [liftHoldItem_reason p hs h1 h15, State.onSerial_found hi hf]
  exact if_congr List.contains_iff_mem rfl rfl

end

/-- Settles O16: each of the two requests by its checks in order. -/
theorem holdsAreAddedAndLiftedInOrder : Obligations.HoldsAreAddedAndLiftedInOrder := by
  intro s₀ p h ds serial b s hs hp
  refine ⟨fun hg => ?hold, fun hg => ?lift⟩
  case hold =>
    rw [exec_holdFile]
    refine ⟨fun hbad => State.serveReading_refuses hg (hp ▸ holdFileItem_range p hs hbad), fun h1 h15 =>
      ⟨fun hnone => State.serveReading_refuses hg (hp ▸ holdFileItem_unknown p hs h1 h15 hnone),
        fun i f hi hf => ?_⟩⟩
    · have hitem := holdFileItem_found p hs h1 h15 (s := s.granting p) hi hf
      refine ⟨fun hmem => ?_, fun hmem hfull => ?_, fun hmem hroom => ?_⟩ <;>
        refine State.serveReading_answers hg (hp ▸ hitem.trans ?_)
      · rw [if_pos hmem]; rfl
      · rw [if_neg hmem, if_pos hfull]; rfl
      · rw [if_neg hmem, if_neg (Nat.not_le.mpr hroom)]; rfl
  case lift =>
    rw [exec_liftHold]
    refine ⟨fun hbad => State.serveReading_refuses hg (hp ▸ liftHoldItem_range p hs hbad), fun h1 h15 =>
      ⟨fun hnone => State.serveReading_refuses hg (hp ▸ liftHoldItem_unknown p hs h1 h15 hnone),
        fun i f hi hf => ?_⟩⟩
    · have hitem := liftHoldItem_found p hs h1 h15 (s := s.granting p) hi hf
      refine ⟨fun hmem => ?_, fun before after hholds hbefore => ?_⟩ <;>
        refine State.serveReading_answers hg (hp ▸ hitem.trans ?_)
      · rw [if_neg hmem]; rfl
      · rw [if_pos (by simp [hholds]), hholds, List.erase_append_right _ hbefore, List.erase_cons_head]
        rfl

/-! ### REOPEN STAGE (R23, R24) -/

/-- REOPEN STAGE is served by its item. -/
theorem exec_reopenStage (ds : Disturbances) (s : State) :
    exec (.reopenStage ds) s = .next (s.serveReading .reopenStage ds reopenStageItem) := rfl

/-- A stage is read back from its byte (R173). -/
theorem Stage.ofByte_byte (t : Stage) : Stage.ofByte t.byte = some t := by
  cases t <;> rfl

/-- A byte that is no stage's names none (R173). -/
theorem Stage.ofByte_of_forall_ne {b : Byte} (h : ∀ t : Stage, t.byte ≠ b) : Stage.ofByte b = none := by
  simp [Stage.ofByte, h]

section
variable {s : State} {serial : Serial} {i : SlotId} {f : FileRec} (p : PortId) (hs : serial.length = 12)
include hs

/-- REOPEN STAGE refuses a byte that names no stage (R23). -/
theorem reopenStageItem_range {b : Byte} (h : ∀ t : Stage, t.byte ≠ b) :
    reopenStageItem p (serial ++ [b]) s = s.reply .range := by
  rw [reopenStageItem, getD_append_singleton hs, Stage.ofByte_of_forall_ne h]

variable (t : Stage)

/-- REOPEN STAGE of a serial the index does not find (R23). -/
theorem reopenStageItem_unknown (h : s.find serial = none) :
    reopenStageItem p (serial ++ [t.byte]) s = s.reply .unknown := by
  rw [reopenStageItem, getD_append_singleton hs, Stage.ofByte_byte]
  dsimp only
  rw [serialOf_append hs, State.onSerial_unknown h]

/-- REOPEN STAGE on a live file, by its checks in order (R23, R24). -/
theorem reopenStageItem_found (hi : s.find serial = some i)
    (hf : (s.readFile (.request .reopenStage) i).file i = some f) :
    reopenStageItem p (serial ++ [t.byte]) s =
      match f.records with
      | none => (s.readFile (.request .reopenStage) i).reply .damaged
      | some rs =>
        if (rs.get t).state ≠ .failed then (s.readFile (.request .reopenStage) i).reply .state
        else if 3 ≤ (rs.get t).reopens then (s.readFile (.request .reopenStage) i).reply .limit
        else (((s.readFile (.request .reopenStage) i).setFile i (f.modStage t StageRecord.reopen)).recompute i).reply
          .done := by
  rw [reopenStageItem, getD_append_singleton hs, Stage.ofByte_byte]
  dsimp only
  rw [serialOf_append hs]
  exact State.onSerial_found hi hf _

end

/-- Settles O17: the checks in order, and the reopened record. -/
theorem reopenStageOpensAFailedStageAtMostThreeTimes : Obligations.ReopenStageOpensAFailedStageAtMostThreeTimes := by
  intro s₀ p h ds serial b s hg hs hp
  rw [exec_reopenStage]
  refine ⟨fun hno => State.serveReading_refuses hg (hp ▸ reopenStageItem_range p hs hno), ?_⟩
  rintro t rfl
  refine ⟨fun hnone => State.serveReading_refuses hg (hp ▸ reopenStageItem_unknown p hs t hnone),
    fun i f hi hf => ?_⟩
  have hitem := reopenStageItem_found p hs t (s := s.granting p) hi hf
  refine ⟨fun hdamaged => ?_, fun rs hrs => ⟨fun hstate => ?_, fun hstate hlimit => ?_, fun hstate hbelow => ?_⟩⟩ <;>
    refine State.serveReading_answers hg (hp ▸ hitem.trans ?_)
  · rw [hdamaged]; rfl
  · rw [hrs]; exact if_pos hstate
  · rw [hrs]; exact (if_neg (not_not.mpr hstate)).trans (if_pos hlimit)
  · rw [hrs]
    refine (if_neg (not_not.mpr hstate)).trans ((if_neg (Nat.not_le.mpr hbelow)).trans ?_)
    rw [FileRec.modStage, hrs]
    rfl

/-! ### The verdict (R145, R146) -/

/-- A damaged file, and a file on hold, is HOLD (R145, line 1). -/
theorem FileRec.verdictNow_hold {f : FileRec} (h : f.records = none ∨ f.holds ≠ []) : f.verdictNow = .hold := by
  unfold FileRec.verdictNow
  split
  · rfl
  · next rs hrs =>
    have hholds : f.holds ≠ [] := h.resolve_left (by simp [hrs])
    rw [if_pos (by simpa using hholds)]

/-- Some stage of a file is FAILED. -/
def StageRecords.anyFailed (rs : StageRecords) : Bool :=
  rs.runin.state == .failed || rs.noise.state == .failed || rs.leak.state == .failed

/-- No stage of a file stands in the way of PASS. -/
def StageRecords.allSettled (rs : StageRecords) : Bool :=
  rs.runin.state.settled && rs.noise.state.settled && rs.leak.state.settled

/-- Some stage is FAILED where one is. -/
theorem StageRecords.anyFailed_iff (rs : StageRecords) :
    rs.anyFailed = true ↔ ∃ t : Stage, (rs.get t).state = .failed := by
  simp only [StageRecords.anyFailed, Bool.or_eq_true, beq_iff_eq]
  constructor
  · rintro ((h | h) | h)
    · exact ⟨.runin, h⟩
    · exact ⟨.noise, h⟩
    · exact ⟨.leak, h⟩
  · rintro ⟨t, ht⟩
    cases t
    · exact .inl (.inl ht)
    · exact .inl (.inr ht)
    · exact .inr ht

/-- No stage stands in the way of PASS where each does not. -/
theorem StageRecords.allSettled_iff (rs : StageRecords) :
    rs.allSettled = true ↔ ∀ t : Stage, (rs.get t).state.settled = true := by
  simp only [StageRecords.allSettled, Bool.and_eq_true]
  constructor
  · rintro ⟨⟨hrunin, hnoise⟩, hleak⟩ t
    cases t
    · exact hrunin
    · exact hnoise
    · exact hleak
  · intro h
    exact ⟨⟨h .runin, h .noise⟩, h .leak⟩

/-- A file not damaged and not on hold, by its stages' states (R145, lines 2 to 4). -/
theorem FileRec.verdictNow_of_stages {f : FileRec} {rs : StageRecords} (hrs : f.records = some rs)
    (hholds : f.holds = []) :
    f.verdictNow = if rs.anyFailed then .rework else if rs.allSettled then .pass else .pending := by
  unfold FileRec.verdictNow
  rw [hrs, hholds]
  rfl

/-- A stage state that does not stand in the way of PASS is PASSED or WAIVED (R145). -/
theorem StageState.settled_iff (x : StageState) : x.settled = true ↔ x = .passed ∨ x = .waived := by
  cases x <;> simp [StageState.settled]

/-- Settles O18: the lines of Table 8-1, and the recomputation by whether the verdict changes. -/
theorem theVerdictFollowsItsTableAndNoticesItsChanges : Obligations.TheVerdictFollowsItsTableAndNoticesItsChanges := by
  refine ⟨fun f => ⟨FileRec.verdictNow_hold, fun rs hrs hholds => ?_⟩, fun s i f hf => ⟨fun hsame => ?_, fun hdiff => ?_⟩⟩
  · rw [FileRec.verdictNow_of_stages hrs hholds]
    refine ⟨fun hfailed => if_pos (rs.anyFailed_iff.mpr hfailed), fun hall => ?_, fun hno hopen => ?_⟩
    · rw [if_neg, if_pos (rs.allSettled_iff.mpr fun t => (StageState.settled_iff _).mpr (hall t))]
      rw [rs.anyFailed_iff]
      rintro ⟨t, ht⟩
      rcases hall t with h | h <;> rw [ht] at h <;> cases h
    · rw [if_neg fun hfailed => (rs.anyFailed_iff.mp hfailed).elim hno, if_neg]
      intro hall
      obtain ⟨t, hpassed, hwaived⟩ := hopen
      rcases (StageState.settled_iff _).mp (rs.allSettled_iff.mp hall t) with h | h
      · exact hpassed h
      · exact hwaived h
  · rw [State.recompute, hf]
    exact if_pos hsame
  · rw [State.recompute, hf]
    exact if_neg hdiff

end Sys2Proof.Machine
end

section
/-! RELEASE with the stray release (R148, R155), FORCE RETIRE (R63, R154), and what the ends of a stage leave at the
ports and in the files beside their own. -/

namespace Sys2Proof.Machine

/-! ### Retirement (R147) -/

/-- Retirement frees its slot, the generation one further, and leaves the others. -/
theorem State.slot_retire (s : State) (i : SlotId) (f : FileRec) (j : SlotId) :
    (s.retire i f).slot j = if i = j then ⟨(s.slot i).gen + 1, none, []⟩ else s.slot j :=
  State.slot_setSlot _ _ _ _

/-- Retirement takes one user from the file's bank and leaves the others. -/
theorem State.bank_retire (s : State) (i : SlotId) (f : FileRec) (k : BankId) :
    (s.retire i f).bank k =
      if f.bank = k then { s.bank f.bank with users := (s.bank f.bank).users - 1 } else s.bank k :=
  State.bank_setBank _ _ _ _

/-- A bank depends on the store alone. -/
theorem State.bank_congr {s t : State} (h : t.store = s.store) (k : BankId) : t.bank k = s.bank k := by
  simp [State.bank, h]

/-! ### RELEASE (R148, R155) -/

/-- RELEASE is served by its item. -/
theorem exec_release (ds : Disturbances) (s : State) :
    exec (.release ds) s = .next (s.serveReading .release ds releaseItem) := rfl

section
variable {s : State} {payload : List Byte} {i : SlotId} {f : FileRec} (p : PortId)

/-- RELEASE of a serial the index does not find is a stray release (R155). -/
theorem releaseItem_stray (h : s.find (serialOf payload) = none) :
    releaseItem p payload s = s.strayRelease p (serialOf payload) := by
  rw [releaseItem, h]
  rfl

/-- RELEASE of a live file, by whether a stage of it is active (R148). -/
theorem releaseItem_found (h : s.find (serialOf payload) = some i)
    (hf : (s.readFile (.request .release) i).file i = some f) :
    releaseItem p payload s =
      if f.activeStage.isSome then (s.readFile (.request .release) i).reply .inTest
      else ⟨(s.readFile (.request .release) i).retire i f, .done, f.report (s.position i)⟩ := by
  rw [releaseItem, State.onSerial_found h hf, h, State.position_readFile]
  rfl

end

/-- Settles O19: RELEASE of a live file by its active stage, and the stray release by its switch. -/
theorem releaseReportsAndRetiresOrAnswersAStray : Obligations.ReleaseReportsAndRetiresOrAnswersAStray := by
  refine ⟨fun s₀ p h ds i f hg hi hf => ?_, fun s₀ p h ds serial hg hlength hp hnone => ?_⟩
  · rw [exec_release]
    have hitem := releaseItem_found p (payload := h.payload) (s := (s₀.disturb ds).granting p) hi hf
    obtain ⟨hindex, horder, hadmissions, -⟩ := ((s₀.disturb ds).granting p).readFile_index (.request .release) i
    have hbank : ∀ k : BankId, (((s₀.disturb ds).granting p).readFile (.request .release) i).bank k =
        (s₀.disturb ds).bank k := State.bank_congr (State.readFile_store _ _ _)
    have hgen := ((s₀.disturb ds).granting p).gen_readFile (.request .release) i i
    have haudio := ((s₀.disturb ds).granting p).readFile_audio (.request .release) i
    dsimp only
    generalize ((s₀.disturb ds).granting p).readFile (.request .release) i = r at *
    refine ⟨fun hactive => State.serveReading_answers hg (hitem.trans (if_pos hactive)), fun hidle =>
      ⟨_, State.serveReading_answers hg (hitem.trans (if_neg (by simp [hidle]))), ?_⟩⟩
    refine ⟨?slot, fun j hj => ?slots, ?index, ?order, hadmissions, ?bank, fun k hk => ?banks, ?port, fun q hq => ?ports,
      rfl, rfl, rfl, rfl, rfl, rfl, rfl, haudio⟩
    case slot => exact ((r.slot_retire i f i).trans (if_pos rfl)).trans (by rw [hgen, State.slot_granting])
    case slots => exact (r.slot_retire i f j).trans (if_neg hj.symm)
    case index => exact congrArg (List.filter _) hindex
    case order => exact congrArg (List.filter _) horder
    case bank => exact (r.bank_retire i f f.bank).trans (by rw [if_pos rfl, hbank])
    case banks => exact (r.bank_retire i f k).trans (by rw [if_neg hk.symm, hbank])
    case port => exact (State.port_answer _ _ _ _ _ _).trans (if_pos rfl)
    case ports => exact (State.port_answer _ _ _ _ _ _).trans (if_neg hq.symm)
  · rw [exec_release]
    have hserial : serialOf h.payload = serial := by rw [hp]; exact List.take_of_length_le hlength.le
    have hitem := releaseItem_stray p (payload := h.payload) (s := (s₀.disturb ds).granting p)
      (by rw [hserial]; exact hnone)
    rw [hserial] at hitem
    refine ⟨fun hon => State.serveReading_answers hg (hitem.trans ?_), fun hoff =>
      State.serveReading_refuses hg (hitem.trans (if_neg (by rw [State.granting, hoff]; decide)))⟩
    rw [State.strayRelease, if_pos (show ((s₀.disturb ds).granting p).engine.strayEnabled = true from hon),
      strayReport, bytesOf_zero, bytesOf_zero]

/-! ### What an engine-side end leaves at the ports (R62, R66) -/

/-- A directive grows a port. -/
theorem State.grew_direct (s : State) (c : ChannelId) (d : Directive) (payload : List Byte) (q : PortId) :
    (s.port q).Grew ((s.direct c d payload).port q) := by
  unfold State.direct
  split
  · next p hp =>
    rw [State.hand, State.port_setPort]
    split
    · next hpq => subst hpq; exact Port.grew_hand _ _
    · exact .refl _
  · exact .refl _

/-- A directive is the last frame its port was handed (R46, R160). -/
theorem State.tx_direct {s : State} {c : ChannelId} {q : PortId} (hq : s.portOf c = some q) (d : Directive)
    (payload : List Byte) :
    ((s.direct c d payload).port q).tx = (s.port q).tx ++ [⟨.directive, 0, d.byte, payload⟩] := by
  unfold State.direct
  rw [hq]
  dsimp only
  rw [State.hand, State.port_setPort, if_pos rfl]
  rfl

/-- The END directive follows what its port was handed before (R66, R177). -/
theorem State.tx_engineEnd {s : State} {c : ChannelId} {b : Binding} {q : PortId} (hb : (s.chan c).binding = some b)
    (hq : s.portOf c = some q) (cause : Cause) :
    (s.port q).tx ++ [⟨.directive, 0, 4, b.handle.bytes ++ [b.stage.byte, 3, BitVec.ofNat 8 cause.num]⟩] <+:
      ((s.engineEnd c cause).port q).tx := by
  unfold State.engineEnd
  rw [hb]
  dsimp only
  generalize hu : State.restChannel _ c = u
  have hports : u.ports = s.ports := by rw [← hu]; simp [State.dropPosting]
  refine List.IsPrefix.trans ?_ (State.tx_recompute _ _ _)
  unfold State.directEnd
  rw [State.tx_direct ((State.portOf_congr hports c).trans hq), State.port_congr hports, List.append_assoc]
  simp [bytesOf, EndCode.num, Directive.byte]

/-- An engine-side end grows the ports. -/
theorem State.grew_engineEnd (s : State) (c : ChannelId) (cause : Cause) (q : PortId) :
    (s.port q).Grew ((s.engineEnd c cause).port q) := by
  unfold State.engineEnd
  split
  · dsimp only
    generalize hu : State.restChannel _ c = u
    have hports : u.ports = s.ports := by rw [← hu]; simp [State.dropPosting]
    rw [← State.port_congr hports]
    exact (State.grew_direct _ _ _ _ q).trans (State.grew_recompute _ _ q)
  · exact .refl _

/-! ### FORCE RETIRE (R63, R154) -/

/-- FORCE RETIRE is served by its item. -/
theorem exec_forceRetire (ds : Disturbances) (s : State) :
    exec (.forceRetire ds) s = .next (s.serveReading .forceRetire ds forceRetireItem) := rfl

/-- The read of a file leaves the other files (R14). -/
theorem State.file_readFile_of_ne (s : State) (item : CaptureItem) {i j : SlotId} (h : i ≠ j) :
    (s.readFile item i).file j = s.file j := by
  unfold State.readFile
  split
  · dsimp only
    split
    · rfl
    · split
      · rw [State.file_setErrors, State.file_captureError]
      · rw [State.file_damage, if_neg h, State.file_captureError]
  · rfl

/-- The end of the stage a file's channel is bound for keeps the generations (R2, R62). -/
theorem State.gen_freed (s : State) (i : SlotId) (cause : Cause) (j : SlotId) :
    ((s.freed i cause).slot j).gen = (s.slot j).gen := by
  unfold State.freed
  split
  · exact State.gen_engineEnd _ _ _ _
  · rfl

/-- The end of the stage a file's channel is bound for keeps the file table (R62). -/
theorem State.fileTable_freed (s : State) (i : SlotId) (cause : Cause) : (s.freed i cause).fileTable = s.fileTable := by
  unfold State.freed
  split
  · exact State.fileTable_engineEnd _ _ _
  · rfl

/-- The end of the stage a file's channel is bound for keeps the recipe store. -/
theorem State.store_freed (s : State) (i : SlotId) (cause : Cause) : (s.freed i cause).store = s.store := by
  unfold State.freed
  split
  · exact State.engineEnd_store _ _ _
  · rfl

/-- The end of the stage a file's channel is bound for keeps the audio configuration. -/
theorem State.audio_freed (s : State) (i : SlotId) (cause : Cause) : (s.freed i cause).audio = s.audio := by
  unfold State.freed
  split
  · exact State.engineEnd_audio _ _ _
  · rfl

/-- Where a channel is bound for a file, the end of its stage is that channel's. -/
theorem State.freed_some {s : State} {i : SlotId} {c : ChannelId} (h : s.boundTo (s.handleOf i) = some c)
    (cause : Cause) : s.freed i cause = s.engineEnd c cause := by
  unfold State.freed
  rw [h]

/-- Where no channel is bound for a file, nothing ends. -/
theorem State.freed_none {s : State} {i : SlotId} (h : s.boundTo (s.handleOf i) = none) (cause : Cause) :
    s.freed i cause = s := by
  unfold State.freed
  rw [h]

section
variable {s : State} {payload : List Byte} {i : SlotId} {f g : FileRec} (p : PortId)

/-- FORCE RETIRE of a serial the index does not find (R154). -/
theorem forceRetireItem_unknown (h : s.find (serialOf payload) = none) :
    forceRetireItem p payload s = s.reply .unknown :=
  State.onSerial_unknown h _ _

/-- FORCE RETIRE of a live file ends its active stage and retires the file (R154). -/
theorem forceRetireItem_done (h : s.find (serialOf payload) = some i)
    (hf : (s.readFile (.request .forceRetire) i).file i = some f)
    (hg : ((s.readFile (.request .forceRetire) i).freed i .forced).file i = some g) :
    forceRetireItem p payload s =
      (((s.readFile (.request .forceRetire) i).freed i .forced).retire i g).reply .done := by
  rw [forceRetireItem, State.onSerial_found h hf]
  cases hb : (s.readFile (.request .forceRetire) i).boundTo ((s.readFile (.request .forceRetire) i).handleOf i) with
  | some c =>
    rw [State.freed_some hb] at hg ⊢
    dsimp only
    rw [hg]
  | none =>
    rw [State.freed_none hb] at hg ⊢
    dsimp only
    rw [hg]

end

/-- A file of the same card is in the table where the table is the same. -/
theorem State.exists_file_of_fileTable {s t : State} (h : t.fileTable = s.fileTable) {i : SlotId} {f : FileRec}
    (hf : s.file i = some f) : ∃ g, t.file i = some g ∧ g.serial = f.serial ∧ g.bank = f.bank := by
  have hcard : (t.file i).map FileRec.card = (s.file i).map FileRec.card := congrFun (congrArg FileTable.card h) i
  rw [hf] at hcard
  obtain ⟨g, hg, hfg⟩ := Option.map_eq_some_iff.mp hcard
  exact ⟨g, hg, congrArg Prod.fst hfg, congrArg Prod.snd hfg⟩

/-- Settles O21: the file's channel ended, then the file retired as its read and that end left it. -/
theorem forceRetireEndsTheClaimAndRetiresTheFile : Obligations.ForceRetireEndsTheClaimAndRetiresTheFile := by
  intro s₀ p h ds s hg
  rw [exec_forceRetire]
  refine ⟨fun hnone => State.serveReading_refuses hg (forceRetireItem_unknown p hnone), fun i f hi hf => ?_⟩
  set r := (s.granting p).readFile (.request .forceRetire) i with hr
  have htable : r.fileTable = s.fileTable := State.fileTable_readFile (s.granting p) _ _
  have hended : (r.freed i .forced).fileTable = s.fileTable := (r.fileTable_freed i .forced).trans htable
  obtain ⟨f₁, hf₁, -, -⟩ := State.exists_file_of_fileTable htable hf
  obtain ⟨g, hfile, hserial, hbank⟩ := State.exists_file_of_fileTable hended hf
  have hstore : (r.freed i .forced).store = s.store := (State.store_freed _ _ _).trans (State.readFile_store _ _ _)
  refine ⟨_, State.serveReading_answers hg (forceRetireItem_done p (s := s.granting p) hi hf₁ hfile), ?slot,
    fun j hj => ?files, ?index, ?order, ?bank, fun k hk => ?banks, fun c hc => ?bound, fun hfree => ?free, ?held, ?last,
    ?audio, ?cursor⟩
  case slot =>
    refine (State.slot_retire _ i g i).trans ?_
    rw [if_pos rfl, State.gen_freed, State.gen_readFile, State.slot_granting]
  case files =>
    refine (congrArg Slot.file ((State.slot_retire _ i g j).trans (if_neg hj.symm))).trans ?_
    exact (State.file_freed_of_ne _ _ hj.symm).trans (State.file_readFile_of_ne _ _ hj.symm)
  case index =>
    rw [← hserial]
    exact congrArg (List.filter _) (congrArg FileTable.index hended)
  case order => exact congrArg (List.filter _) (congrArg FileTable.lineOrder hended)
  case bank =>
    refine (congrArg Bank.users (State.bank_retire _ i g f.bank)).trans ?_
    rw [if_pos hbank, hbank, State.bank_congr hstore]
  case banks =>
    refine (State.bank_retire _ i g k).trans ?_
    rw [if_neg (by rw [hbank]; exact hk.symm), State.bank_congr hstore]
  case bound =>
    obtain ⟨b, hb, -⟩ := State.boundTo_some hc
    rw [State.freed_some hc]
    refine ⟨?_, fun q hq => ?_, fun b' q hb' hq => ?_⟩
    · exact (State.chan_engineEnd r c .forced c).trans (by rw [if_pos rfl, hb]; rfl)
    · have hpostings : q ∈ (r.engineEnd c .forced).arbiter.postings := hq
      rw [State.postings_engineEnd r c .forced b hb] at hpostings
      exact bne_iff_ne.mp (List.mem_filter.mp hpostings).2
    · have hmem := (State.tx_engineEnd hb' hq .forced).subset (List.mem_append_right _ (List.mem_singleton_self _))
      rw [State.port_answer]
      split
      · next hpq => subst hpq; exact List.mem_append_left _ hmem
      · exact hmem
  case free => rw [State.freed_none hfree]; exact ⟨rfl, rfl⟩
  case held => rw [State.port_answer, if_pos rfl]
  case last =>
    rw [State.port_answer, if_pos rfl]
    exact List.getLast?_concat
  case audio => exact (State.audio_freed _ _ _).trans (State.readFile_audio _ _ _)
  case cursor => exact (congrArg Store.cursor hstore :)

end Sys2Proof.Machine
end

section
/-! OPEN BANK, DISCARD BANK and PUBLISH BANK (R28 to R30). -/

namespace Sys2Proof.Machine

/-- A READY bank's state carries its counts (R26, R30). -/
theorem Bank.exists_ready {k : Bank} (h : k.isReady = true) : ∃ steps bands, k.state = .ready steps bands := by
  unfold Bank.isReady at h
  split at h
  · next steps bands hs => exact ⟨steps, bands, hs⟩
  · exact absurd h Bool.false_ne_true
  · exact absurd h Bool.false_ne_true

/-! ### OPEN BANK (R28) -/

/-- OPEN BANK is served by its item. -/
theorem exec_openBank (s : State) : exec .openBank s = .next (s.serve .openBank openBankItem) := rfl

section
variable {s : State} {payload : List Byte} {b : BankId} (p : PortId)

/-- OPEN BANK refuses what is no bank's number. -/
theorem openBankItem_range (h : 8 ≤ byteAt payload 0) : openBankItem p payload s = s.reply .range := by
  rw [openBankItem, below8_of_seven_lt h]

variable (h : byteAt payload 0 = b.val)
include h

/-- OPEN BANK of an EMPTY bank opens it with words of 0. -/
theorem openBankItem_empty (hs : (s.bank b).state = .empty) : openBankItem p payload s =
    (s.setBank b { s.bank b with state := .opened, contents := .zero }).reply .done := by
  rw [openBankItem, below8_of_eq h]
  dsimp only
  rw [hs]

/-- OPEN BANK of a READY bank, by its users. -/
theorem openBankItem_ready (hr : (s.bank b).isReady = true) : openBankItem p payload s =
    if (s.bank b).users = 0 then (s.setBank b { s.bank b with state := .opened }).reply .done else s.reply .inUse := by
  obtain ⟨steps, bands, hs⟩ := Bank.exists_ready hr
  rw [openBankItem, below8_of_eq h]
  dsimp only
  rw [hs]

/-- OPEN BANK of an OPEN bank changes nothing. -/
theorem openBankItem_opened (hs : (s.bank b).state = .opened) : openBankItem p payload s = s.reply .done := by
  rw [openBankItem, below8_of_eq h]
  dsimp only
  rw [hs]

end

/-! ### DISCARD BANK (R29) -/

/-- DISCARD BANK is served by its item. -/
theorem exec_discardBank (s : State) : exec .discardBank s = .next (s.serve .discardBank discardBankItem) := rfl

section
variable {s : State} {payload : List Byte} {b : BankId} (p : PortId)

/-- DISCARD BANK refuses what is no bank's number. -/
theorem discardBankItem_range (h : 8 ≤ byteAt payload 0) : discardBankItem p payload s = s.reply .range := by
  rw [discardBankItem, below8_of_seven_lt h]

variable (h : byteAt payload 0 = b.val)
include h

/-- DISCARD BANK of an EMPTY bank changes nothing. -/
theorem discardBankItem_empty (hs : (s.bank b).state = .empty) : discardBankItem p payload s = s.reply .done := by
  rw [discardBankItem, below8_of_eq h]
  dsimp only
  rw [hs]

/-- DISCARD BANK of a READY bank, by its users. -/
theorem discardBankItem_ready (hr : (s.bank b).isReady = true) : discardBankItem p payload s =
    if (s.bank b).users = 0 then (s.clearBank b).reply .done else s.reply .inUse := by
  obtain ⟨steps, bands, hs⟩ := Bank.exists_ready hr
  rw [discardBankItem, below8_of_eq h]
  dsimp only
  rw [hs]

/-- DISCARD BANK clears a bank that is OPEN, or READY without users. -/
theorem discardBankItem_cleared
    (hs : (s.bank b).state = .opened ∨ ((s.bank b).isReady = true ∧ (s.bank b).users = 0)) :
    discardBankItem p payload s = (s.clearBank b).reply .done := by
  rcases hs with hs | ⟨hready, hfree⟩
  · rw [discardBankItem, below8_of_eq h]
    dsimp only
    rw [hs]
  · rw [discardBankItem_ready p h hready, if_pos hfree]

end

/-- A cleared bank takes a cursor set on it along and leaves any other (R29). -/
theorem State.clearBank_eq (s : State) (b : BankId) :
    s.clearBank b = (s.setBank b { s.bank b with state := .empty, contents := .zero }).setCursor
      (s.store.cursor.map fun cur => if cur.bank = b then cur.afterDiscard .zero else cur) := rfl

/-- The cursor written as it stands changes nothing. -/
theorem State.setCursor_self (s : State) : s.setCursor s.store.cursor = s := rfl

/-- A cursor set on no entry of the cleared bank stands (R29). -/
theorem State.clearBank_of_other {s : State} {b : BankId} (h : ∀ cur ∈ s.store.cursor, cur.bank ≠ b) :
    s.clearBank b = s.setBank b { s.bank b with state := .empty, contents := .zero } := by
  rw [State.clearBank_eq]
  cases hc : s.store.cursor with
  | none => rw [Option.map_none, ← hc]; rfl
  | some cur => rw [Option.map_some, if_neg (h cur hc), ← hc]; rfl

/-- A cursor set on the cleared bank is emptied with it (R29). -/
theorem State.clearBank_of_cursor {s : State} {b : BankId} {cur : Cursor} (hc : s.store.cursor = some cur)
    (hb : cur.bank = b) :
    s.clearBank b = (s.setBank b { s.bank b with state := .empty, contents := .zero }).setCursor
      (some (cur.afterDiscard .zero)) := by
  rw [State.clearBank_eq, hc, Option.map_some, if_pos hb]

/-- An entry of contents of 0 is words of 0. -/
theorem Contents.entry_zero (t : Table) {i : Nat} (h : i < t.entries) :
    Contents.zero.entry t i = List.replicate t.width 0 := by
  cases t <;> simp [Contents.entry, Contents.table, Contents.zero, Table.zeros, h]

/-- The entry a READ cursor loads of contents of 0: words of 0, none past the last entry (R29, R41). -/
theorem loadEntry_zero (t : Table) (i : Nat) :
    loadEntry .zero t i = if i < t.entries then List.replicate t.width 0 else [] := by
  unfold loadEntry
  split
  · next h => exact Contents.entry_zero t h
  · rfl

/-- A WRITE cursor on a cleared bank (R29). -/
theorem Cursor.afterDiscard_write {cur : Cursor} (h : cur.direction = .write) (c : Contents) :
    cur.afterDiscard c = { cur with staging := [] } := by
  rw [Cursor.afterDiscard, h]

/-- A READ cursor on a cleared bank (R29; entry 14). -/
theorem Cursor.afterDiscard_read {cur : Cursor} (h : cur.direction = .read) (c : Contents) :
    cur.afterDiscard c = { cur with staging := loadEntry c cur.table cur.index, returned := 0 } := by
  rw [Cursor.afterDiscard, h]

/-- Settles O23: each request by the bank's number, its state and its users. -/
theorem banksAreOpenedAndDiscardedByTheirState : Obligations.BanksAreOpenedAndDiscardedByTheirState := by
  intro s p h
  refine ⟨fun hg => ?opening, fun hg => ?discarding⟩
  case opening =>
    rw [exec_openBank]
    refine ⟨fun hrange => State.serve_refuses hg (openBankItem_range p hrange), fun b hb =>
      ⟨fun hempty => State.serve_answers hg (openBankItem_empty p hb hempty),
        fun hready hfree =>
          State.serve_answers hg ((openBankItem_ready p hb (s := s.granting p) hready).trans (if_pos hfree)),
        fun hready hused =>
          State.serve_refuses hg ((openBankItem_ready p hb (s := s.granting p) hready).trans (if_neg hused.ne')),
        fun hopened => State.serve_refuses hg (openBankItem_opened p hb hopened)⟩⟩
  case discarding =>
    rw [exec_discardBank]
    refine ⟨fun hrange => State.serve_refuses hg (discardBankItem_range p hrange), fun b hb =>
      ⟨fun hempty => State.serve_refuses hg (discardBankItem_empty p hb hempty),
        fun hready hused =>
          State.serve_refuses hg ((discardBankItem_ready p hb (s := s.granting p) hready).trans (if_neg hused.ne')),
        fun hclear => ?_⟩⟩
    have hitem := discardBankItem_cleared p hb (s := s.granting p) hclear
    refine ⟨fun hother => ?_, fun cur hc hcb => ⟨fun hwrite => ?_, fun hread hindex => ?_, fun hread hindex => ?_⟩⟩ <;>
      refine State.serve_answers hg (hitem.trans ?_)
    · rw [State.clearBank_of_other (s := s.granting p) hother]; rfl
    · rw [State.clearBank_of_cursor (s := s.granting p) hc hcb, Cursor.afterDiscard_write hwrite]; rfl
    · rw [State.clearBank_of_cursor (s := s.granting p) hc hcb, Cursor.afterDiscard_read hread, loadEntry_zero,
        if_pos hindex]
      rfl
    · rw [State.clearBank_of_cursor (s := s.granting p) hc hcb, Cursor.afterDiscard_read hread, loadEntry_zero,
        if_neg (Nat.not_lt.mpr hindex)]
      rfl

/-! ### PUBLISH BANK (R30) -/

/-- PUBLISH BANK is served by its item. -/
theorem exec_publishBank (s : State) : exec .publishBank s = .next (s.serve .publishBank publishBankItem) := rfl

/-- The cursor holds a partial entry for a bank. -/
theorem Store.partialFor_iff (st : Store) (b : BankId) :
    st.partialFor b = true ↔ ∃ cur ∈ st.cursor, cur.bank = b ∧ cur.direction = .write ∧ cur.staging ≠ [] := by
  unfold Store.partialFor
  cases st.cursor with
  | none => simp
  | some cur => simp [and_assoc]

section
variable {s : State} {payload : List Byte} {b : BankId} (p : PortId)

/-- PUBLISH BANK refuses what is no bank's number. -/
theorem publishBankItem_range (h : 8 ≤ byteAt payload 0) : publishBankItem p payload s = s.reply .range := by
  rw [publishBankItem, below8_of_seven_lt h]

variable (h : byteAt payload 0 = b.val)
include h

/-- PUBLISH BANK refuses a bank that is not OPEN. -/
theorem publishBankItem_state (hs : (s.bank b).state ≠ .opened) : publishBankItem p payload s = s.reply .state := by
  rw [publishBankItem, below8_of_eq h]
  exact if_pos hs

variable (hs : (s.bank b).state = .opened)
include hs

/-- PUBLISH BANK refuses a bank for which the cursor holds a partial entry. -/
theorem publishBankItem_partial (hp : s.store.partialFor b = true) : publishBankItem p payload s = s.reply .state := by
  rw [publishBankItem, below8_of_eq h]
  exact (if_neg (not_not.mpr hs)).trans (if_pos hp)

/-- PUBLISH BANK validates an OPEN bank with no partial entry. -/
theorem publishBankItem_validated (hp : s.store.partialFor b = false) : publishBankItem p payload s =
    match (s.bank b).contents.firstBad with
    | some (t, i) => ⟨s, .malformed, [t.byte] ++ bytesOf 1 i⟩
    | none =>
      ⟨s.setBank b { s.bank b with
          state := .ready (s.bank b).contents.countSteps (s.bank b).contents.countBands, users := 0 }, .done,
        bytesOf 1 (s.bank b).contents.countSteps ++ bytesOf 1 (s.bank b).contents.countBands⟩ := by
  rw [publishBankItem, below8_of_eq h]
  exact (if_neg (not_not.mpr hs)).trans (if_neg (by rw [hp]; decide))

end

/-- Settles O24: the checks in order, and the published bank. -/
theorem publishMakesAValidBankReady : Obligations.PublishMakesAValidBankReady := by
  intro s p h hg
  rw [exec_publishBank]
  refine ⟨fun hrange => State.serve_refuses hg (publishBankItem_range p hrange), fun b hb =>
    ⟨fun hstate => State.serve_refuses hg (publishBankItem_state p hb hstate), fun hopened => ⟨?_, fun hno => ?_⟩⟩⟩
  · intro cur hc hcb hwrite hpartial
    exact State.serve_refuses hg (publishBankItem_partial p hb (s := s.granting p) hopened
      ((s.store.partialFor_iff b).mpr ⟨cur, hc, hcb, hwrite, hpartial⟩))
  · have hitem := publishBankItem_validated p hb (s := s.granting p) hopened (Bool.eq_false_iff.mpr fun hp => by
      obtain ⟨cur, hc, hpartial⟩ := (s.store.partialFor_iff b).mp hp
      exact hno cur hc hpartial)
    refine ⟨fun t i hbad => State.serve_answers hg (hitem.trans ?_), fun hgood =>
      State.serve_answers hg (hitem.trans ?_)⟩
    · rw [State.bank_granting, hbad]
    · rw [State.bank_granting, hgood]

end Sys2Proof.Machine
end

section
/-! Validation of a bank's contents (R31 to R36), and the words its fields are read from. -/

namespace Sys2Proof.Machine

/-! ### Counts and band lists (R30, R35) -/

/-- The entry after the last step is none: its duration is 0 (R30). -/
theorem Contents.duration_at_countSteps (c : Contents) :
    (stepFieldsOf (c.entry .steps c.countSteps)).durationS = 0 := by
  obtain ⟨hle, -, hend⟩ := c.countSteps_spec
  rcases hle.lt_or_eq with hlt | heq
  · exact hend hlt
  · rw [Contents.entry, Contents.table, List.getD_eq_default _ _ heq.ge]
    rfl

/-- The entry after the last band is none: its order is 0 (R30). -/
theorem Contents.order_at_countBands (c : Contents) : (bandFieldsOf (c.entry .bands c.countBands)).order = 0 := by
  obtain ⟨hle, -, hend⟩ := c.countBands_spec
  rcases hle.lt_or_eq with hlt | heq
  · exact hend hlt
  · rw [Contents.entry, Contents.table, List.getD_eq_default _ _ heq.ge]
    rfl

/-- The bands of a READY bank are its entries up to the band count (R35). -/
theorem Bank.bands_of_ready {k : Bank} {steps bands : Nat} (h : k.state = .ready steps bands)
    (hle : bands ≤ k.contents.bands.length) :
    k.bands = (List.range bands).map fun i => bandFieldsOf (k.contents.entry .bands i) := by
  have hcount : k.bandCount = bands := by rw [Bank.bandCount, h]
  rw [Bank.bands, hcount]
  refine List.ext_getElem (by simp [hle]) fun i hi hi' => ?_
  have hlt : i < k.contents.bands.length := by simp at hi; omega
  simp [Contents.entry, Contents.table, hlt]

/-! ### The ranges of each table (Tables 2-6 and 2-8 to 2-11) -/

/-- A property of every stage is one of the three. -/
theorem Stage.forall_iff {P : Stage → Prop} : (∀ t, P t) ↔ P .runin ∧ P .noise ∧ P .leak :=
  ⟨fun h => ⟨h _, h _, h _⟩, fun ⟨hr, hn, hl⟩ t => by cases t <;> assumption⟩

/-- The words of GENERAL of a stage lie within their ranges where it is required (R32). -/
theorem generalStageOk_iff (c : Contents) (t : Stage) : generalStageOk c t = true ↔
    (c.requires t = true → 1 ≤ c.retryLimit t ∧ c.retryLimit t ≤ 3 ∧
      1000 ≤ c.stageLimitMs t ∧ c.stageLimitMs t ≤ 3600000) := by
  cases hr : c.requires t with
  | false => simp [generalStageOk, hr]
  | true =>
    simp only [generalStageOk, hr, within, Contents.stageLimitMs, Bool.not_true, Bool.false_or, Bool.and_eq_true,
      decide_eq_true_eq, true_imp_iff]
    omega

/-- The upper byte of a word is 0 below 1000000h. -/
theorem wordByte_three_eq_zero_iff (w : Word) : wordByte w.toNat 3 = 0 ↔ w < 0x1000000 := by
  have hlt := w.isLt
  rw [wordByte, BitVec.lt_def]
  change w.toNat / 16777216 % 256 = 0 ↔ w.toNat < 16777216
  omega

/-- GENERAL's entry lies within its ranges (R32). -/
theorem generalOk_iff (c : Contents) : generalOk c = true ↔
    ((c.table .general).getD 0 []).getD 0 0 ≤ 7 ∧ c.claimCode ≤ 7 ∧
    ((c.table .general).getD 0 []).getD 4 0 < 0x1000000 ∧
    (∀ t : Stage, c.requires t = true → 1 ≤ c.retryLimit t ∧ c.retryLimit t ≤ 3 ∧
      1000 ≤ c.stageLimitMs t ∧ c.stageLimitMs t ≤ 3600000) ∧
    (c.requires .noise = true → c.requires .runin = true) ∧
    (c.requires .runin = true → 1 ≤ c.persistence ∧ c.persistence ≤ 15 ∧ 1 ≤ c.invalidLimit ∧ c.invalidLimit ≤ 15) := by
  have hset : wordAt (c.entry .general 0) 0 ≤ 7 ↔ ((c.table .general).getD 0 []).getD 0 0 ≤ 7 := .rfl
  have hupper : wordByte (wordAt (c.entry .general 0) 4) 3 = 0 ↔
      ((c.table .general).getD 0 []).getD 4 0 < 0x1000000 := wordByte_three_eq_zero_iff _
  rw [Stage.forall_iff, ← hset, ← hupper, ← generalStageOk_iff, ← generalStageOk_iff, ← generalStageOk_iff]
  simp only [generalOk, within, Bool.and_eq_true, Bool.or_eq_true, Bool.not_eq_true', decide_eq_true_eq, beq_iff_eq]
  cases c.requires .runin <;> cases c.requires .noise <;> simp <;> tauto

/-- A step's entry lies within its ranges (R33). -/
theorem stepOk_iff (f : StepFields) : stepOk f = true ↔
    f.direction ≤ 1 ∧ f.speed ≤ 3000 ∧ f.tolerance ≤ 3000 ∧ -30000 ≤ f.lower ∧ f.lower ≤ f.torque ∧
    f.torque ≤ f.upper ∧ f.upper ≤ 30000 ∧ 1 ≤ f.oilMax ∧ f.oilMax ≤ 2000 ∧ 1 ≤ f.bearingMax ∧
    f.bearingMax ≤ 2000 ∧ 1 ≤ f.durationS ∧ f.durationS ≤ 3600 ∧ f.settleMs ≤ 30000 ∧
    f.settleMs < f.durationS * 1000 ∧ f.warm ≤ 2000 ∧ f.warm ≤ f.oilMax := by
  simp only [stepOk, within, withinInt, Bool.and_eq_true, decide_eq_true_eq]
  omega

/-- NOISE's entry lies within its ranges (R34). -/
theorem noiseOk_iff (f : NoiseFields) : noiseOk f = true ↔
    1 ≤ f.speed ∧ f.speed ≤ 3000 ∧ 128 ≤ f.lmin ∧ f.lmin ≤ f.lmax ∧ f.lmax ≤ 4096 ∧ f.settle ≤ 255 ∧
    4 ≤ f.driveTarget ∧ f.driveTarget ≤ 1024 ∧ f.flankSettle ≤ 255 ∧ 4 ≤ f.coastTarget ∧ f.coastTarget ≤ 1024 ∧
    f.rejectLimit ≤ 1024 ∧ 1 ≤ f.driveLimit ∧ f.driveLimit ≤ 16777216 ∧ 1 ≤ f.coastLimit ∧
    f.coastLimit ≤ 16777216 := by
  simp only [noiseOk, within, Bool.and_eq_true, decide_eq_true_eq]
  omega

/-- LEAK's entry lies within its ranges (R36). -/
theorem leakOk_iff (f : LeakFields) : leakOk f = true ↔
    1 ≤ f.target ∧ f.tolerance ≤ 100000 ∧ f.tolerance ≤ f.target ∧ f.target + f.tolerance ≤ 1000000 ∧
    100 ≤ f.fillMs ∧ f.fillMs ≤ 600000 ∧ f.settleMs ≤ 600000 ∧ f.dropMax ≤ 1000000 ∧ 1000 ≤ f.measureMs ∧
    f.measureMs ≤ 600000 ∧ 1 ≤ f.volume ∧ f.volume ≤ 100000 ∧ f.leakLimit ≤ 9999999 ∧ f.margin ≤ 1000000 ∧
    f.tolerance < f.margin := by
  simp only [leakOk, within, Bool.and_eq_true, decide_eq_true_eq]
  omega

/-- The entry at an index is a band, and meets the conditions of one (R35). -/
def bandStands (c : Contents) (i : Nat) : Bool := (bandFieldsOf (c.entry .bands i)).order != 0 && bandOk c i

/-- A band's order stands in no entry before it (R35). -/
theorem any_take_order_iff (c : Contents) (i : Nat) {n : Nat} (hn : n ≠ 0) :
    ((c.bands.take i).any fun e => (bandFieldsOf e).order == n) = true ↔
      ∃ j < i, (bandFieldsOf (c.entry .bands j)).order = n := by
  rw [List.any_eq_true]
  constructor
  · rintro ⟨e, he, heq⟩
    obtain ⟨j, hj, rfl⟩ := List.mem_take_iff_getElem.mp he
    refine ⟨j, (lt_min_iff.mp hj).1, ?_⟩
    rw [Contents.entry, Contents.table, List.getD_eq_getElem _ _ (lt_min_iff.mp hj).2]
    exact beq_iff_eq.mp heq
  · rintro ⟨j, hj, heq⟩
    rcases lt_or_ge j c.bands.length with hlt | hge
    · refine ⟨c.bands[j], List.mem_take_iff_getElem.mpr ⟨j, lt_min hj hlt, rfl⟩, ?_⟩
      rw [Contents.entry, Contents.table, List.getD_eq_getElem _ _ hlt] at heq
      exact beq_iff_eq.mpr heq
    · rw [Contents.entry, Contents.table, List.getD_eq_default _ _ hge] at heq
      exact absurd heq.symm hn

/-- A band's entry lies within its ranges (R35). -/
theorem bandStands_iff (c : Contents) (i : Nat) : bandStands c i = true ↔
    let b := bandFieldsOf (c.entry .bands i)
    1 ≤ b.order ∧ b.order ≤ 63 ∧ b.driveLimit ≤ 16777216 ∧ b.coastLimit ≤ 16777216 ∧
    ∀ j : Nat, j < i → (bandFieldsOf (c.entry .bands j)).order ≠ b.order := by
  dsimp only
  by_cases hn : (bandFieldsOf (c.entry .bands i)).order = 0
  · simp [bandStands, hn]
  · have hother := not_congr (any_take_order_iff c i hn)
    simp only [not_exists, not_and, Bool.not_eq_true] at hother
    simp only [bandStands, bandOk, Bool.and_eq_true, bne_iff_ne, decide_eq_true_eq, Bool.not_eq_true', hother]
    have hpos := Nat.one_le_iff_ne_zero (n := (bandFieldsOf (c.entry .bands i)).order)
    tauto

/-! ### The items in R31's order -/

/-- The items validation goes through (R31). -/
def Contents.items (c : Contents) : List (Table × Nat) :=
  [(.general, 0)] ++
  (if c.requires .runin then (List.range (max 1 c.countSteps)).map fun i => (.steps, i) else []) ++
  (if c.requires .noise then (.noise, 0) :: (List.range (max 1 c.countBands)).map fun i => (.bands, i) else []) ++
  (if c.requires .leak then [(.leak, 0)] else [])

/-- An item lies within its ranges. -/
def Contents.itemOk (c : Contents) (x : Table × Nat) : Bool :=
  match x.1 with
  | .general => generalOk c
  | .steps => stepOk (c.step (x.2 + 1))
  | .noise => noiseOk c.noiseFields
  | .bands => bandStands c x.2
  | .leak => leakOk c.leakFields

/-- The first bad step is the first entry that does not lie within its ranges, entry 0 in any case (R31, R33). -/
theorem badStep_eq (c : Contents) :
    badStep c = (List.range (max 1 c.countSteps)).find? fun i => !stepOk (c.step (i + 1)) := by
  unfold badStep
  split
  · next h =>
    have hbad : stepOk (c.step (0 + 1)) = false := by
      have hzero := c.duration_at_countSteps
      rw [h] at hzero
      refine Bool.eq_false_iff.mpr fun hok => ?_
      obtain ⟨-, -, -, -, -, -, -, -, -, -, -, hpos, -⟩ := (stepOk_iff _).mp hok
      exact absurd hzero (Nat.one_le_iff_ne_zero.mp hpos)
    simp [h, hbad]
  · next h =>
    rw [max_eq_right (Nat.one_le_iff_ne_zero.mpr h)]
    rfl

/-- The first bad band is the first entry that does not lie within its ranges, entry 0 in any case (R31, R35). -/
theorem badBand_eq (c : Contents) :
    badBand c = (List.range (max 1 c.countBands)).find? fun i => !bandStands c i := by
  unfold badBand
  split
  · next h =>
    have hzero := c.order_at_countBands
    rw [h] at hzero
    simp [h, bandStands, hzero]
  · next h =>
    rw [max_eq_right (Nat.one_le_iff_ne_zero.mpr h)]
    refine List.find?_congr fun i hi => ?_
    have hband : (bandFieldsOf (c.entry .bands i)).order ≠ 0 := c.countBands_spec.2.1 i (List.mem_range.mp hi)
    simp [bandStands, hband]

/-- The first bad item is the first that does not lie within its ranges (R31). -/
theorem Contents.firstBad_eq (c : Contents) : c.firstBad = c.items.find? fun x => !c.itemOk x := by
  have hgeneral : (badOnly (generalOk c)).map (fun i => (Table.general, i)) =
      [(Table.general, 0)].find? fun x => !c.itemOk x := by
    cases h : generalOk c <;> simp [badOnly, Contents.itemOk, h]
  have hsteps : (whenRequired c .runin (badStep c)).map (fun i => (Table.steps, i)) =
      (if c.requires .runin then (List.range (max 1 c.countSteps)).map fun i => (Table.steps, i) else []).find?
        fun x => !c.itemOk x := by
    cases h : c.requires .runin
    · simp [whenRequired, h]
    · rw [whenRequired, h, if_pos rfl, if_pos rfl, badStep_eq, List.find?_map]
      rfl
  have hnoise : (whenRequired c .noise (badOnly (noiseOk c.noiseFields))).map (fun i => (Table.noise, i)) =
      (if c.requires .noise then [(Table.noise, 0)] else []).find? fun x => !c.itemOk x := by
    cases h : c.requires .noise <;> cases h' : noiseOk c.noiseFields <;>
      simp [whenRequired, badOnly, Contents.itemOk, h, h']
  have hbands : (whenRequired c .noise (badBand c)).map (fun i => (Table.bands, i)) =
      (if c.requires .noise then (List.range (max 1 c.countBands)).map fun i => (Table.bands, i) else []).find?
        fun x => !c.itemOk x := by
    cases h : c.requires .noise
    · simp [whenRequired, h]
    · rw [whenRequired, h, if_pos rfl, if_pos rfl, badBand_eq, List.find?_map]
      rfl
  have hleak : (whenRequired c .leak (badOnly (leakOk c.leakFields))).map (fun i => (Table.leak, i)) =
      (if c.requires .leak then [(Table.leak, 0)] else []).find? fun x => !c.itemOk x := by
    cases h : c.requires .leak <;> cases h' : leakOk c.leakFields <;>
      simp [whenRequired, badOnly, Contents.itemOk, h, h']
  have hitems : c.items = [(Table.general, 0)] ++
      ((if c.requires .runin then (List.range (max 1 c.countSteps)).map fun i => (Table.steps, i) else []) ++
      ((if c.requires .noise then [(Table.noise, 0)] else []) ++
      ((if c.requires .noise then (List.range (max 1 c.countBands)).map fun i => (Table.bands, i) else []) ++
      (if c.requires .leak then [(Table.leak, 0)] else [])))) := by
    cases h : c.requires .noise <;> simp [Contents.items, h]
  rw [hitems, List.find?_append, List.find?_append, List.find?_append, List.find?_append, ← hgeneral, ← hsteps,
    ← hnoise, ← hbands, ← hleak, Contents.firstBad]
  simp only [Option.orElse_eq_orElse, Option.orElse_eq_or]

/-- Settles O25: the fields by their words, and validation as the first failing item of R31's order. -/
theorem validContentsLieWithinTheirRanges : Obligations.ValidContentsLieWithinTheirRanges := by
  refine ⟨fun c => ⟨fun t => ?stages, ?claim, rfl, rfl, fun i => rfl, rfl, fun i => rfl, rfl, c.countSteps_spec,
    c.countBands_spec, fun k steps bands hk hready hle => ?bands⟩, fun c => ?valid⟩
  case stages =>
    refine ⟨?_, ?_, ?_⟩ <;> cases t
    all_goals simp [Contents.requires, Contents.retryLimit, Contents.stageLimitMs, Stage.bit, wordAt, Contents.entry,
      Nat.testBit_eq_decide_div_mod_eq, Nat.mul_comm]
  case claim => simp [Contents.claimCode, wordByte, wordAt, Contents.entry]
  case bands =>
    subst hk
    exact Bank.bands_of_ready hready hle
  case valid =>
    intro general step noise band leak good items
    have hgood : ∀ x, good x ↔ c.itemOk x = true := by
      rintro ⟨t, i⟩
      cases t
      · exact (generalOk_iff c).symm
      · exact (stepOk_iff _).symm
      · exact (noiseOk_iff _).symm
      · exact (bandStands_iff c i).symm
      · exact (leakOk_iff _).symm
    have hfirst : c.firstBad = items.find? fun x => !c.itemOk x := c.firstBad_eq
    rw [hfirst]
    refine ⟨?_, fun before after x hitems hbefore hx => ?_⟩
    · rw [List.find?_eq_none]
      exact forall₂_congr fun x _ => by rw [hgood]; simp
    · refine List.find?_eq_some_iff_append.mpr ⟨?_, before, after, hitems, fun y hy => ?_⟩
      · rw [hgood] at hx
        simpa using hx
      · simpa using (hgood y).mp (hbefore y hy)

end Sys2Proof.Machine
end

section
/-! DATA and READ DATA: the words that pass through the loading cursor (R40, R41). -/

namespace Sys2Proof.Machine

/-! ### Words taken in WRITE direction (R40) -/

/-- The words that have passed the cursor into entries and staging: those staged before, and those taken. -/
def Cursor.passed (cur : Cursor) (words : List Word) (r : Written) : List Word := cur.staging ++ words.take r.taken

/-- The words of a DATA fill the entries at the cursor in order, the words left over stay in staging (R40). -/
structure Fills (words : List Word) (c : Contents) (cur : Cursor) (r : Written) : Prop where
  taken : r.taken = min words.length ((cur.table.entries - cur.index) * cur.table.width - cur.staging.length)
  cursor : r.cursor = { cur with
    index := cur.index + (cur.passed words r).length / cur.table.width
    staging := (cur.passed words r).drop ((cur.passed words r).length / cur.table.width * cur.table.width) }
  filled : ∀ j : Nat, cur.index ≤ j → j < r.cursor.index →
    r.contents.entry cur.table j = ((cur.passed words r).drop ((j - cur.index) * cur.table.width)).take cur.table.width
  kept : ∀ j : Nat, j < cur.index ∨ r.cursor.index ≤ j → r.contents.entry cur.table j = c.entry cur.table j
  others : ∀ t : Table, t ≠ cur.table → r.contents.table t = c.table t

/-- Where no word is taken nothing is filled. -/
theorem Fills.stop {words : List Word} {c : Contents} {cur : Cursor} (hstaging : cur.staging.length < cur.table.width)
    (h : words = [] ∨ cur.table.entries ≤ cur.index) : Fills words c cur ⟨c, cur, 0⟩ := by
  have hpassed : cur.passed words ⟨c, cur, 0⟩ = cur.staging := by simp [Cursor.passed]
  have hcursor : cur = { cur with
      index := cur.index + (cur.passed words ⟨c, cur, 0⟩).length / cur.table.width
      staging := (cur.passed words ⟨c, cur, 0⟩).drop
        ((cur.passed words ⟨c, cur, 0⟩).length / cur.table.width * cur.table.width) } := by
    rw [hpassed, Nat.div_eq_of_lt hstaging]
    simp
  refine ⟨?_, hcursor, fun j hle hlt => absurd hlt (Nat.not_lt.mpr hle), fun _ _ => rfl, fun _ _ => rfl⟩
  rcases h with rfl | h
  · simp
  · simp [Nat.sub_eq_zero_of_le h]

section
variable {w : Word} {words : List Word} {c : Contents} {cur : Cursor} {r : Written}

/-- One more word taken passes the cursor before the words that follow it. -/
theorem Cursor.passed_cons (cur : Cursor) (w : Word) (words : List Word) (r : Written) :
    cur.passed (w :: words) { r with taken := r.taken + 1 } = (cur.staging ++ [w]) ++ words.take r.taken := by
  simp [Cursor.passed]

/-- A word that does not complete its entry is staged (R40). -/
theorem Fills.stage (hindex : cur.index < cur.table.entries) (hpart : (cur.staging ++ [w]).length < cur.table.width)
    (h : Fills words c { cur with staging := cur.staging ++ [w] } r) :
    Fills (w :: words) c cur { r with taken := r.taken + 1 } := by
  obtain ⟨htaken, hcursor, hfilled, hkept, hothers⟩ := h
  have hpassed : cur.passed (w :: words) { r with taken := r.taken + 1 } =
      Cursor.passed { cur with staging := cur.staging ++ [w] } words r := cur.passed_cons w words r
  refine ⟨?_, by rw [hpassed]; exact hcursor, by rw [hpassed]; exact hfilled, hkept, hothers⟩
  have hroom : cur.table.width ≤ (cur.table.entries - cur.index) * cur.table.width :=
    Nat.le_mul_of_pos_left _ (by omega)
  simp only [List.length_append, List.length_cons, List.length_nil] at htaken hpart ⊢
  omega

/-- A word that completes its entry has it written, and the words after it fill the entries from the next (R40). -/
theorem Fills.entry (hc : c.shaped) (hindex : cur.index < cur.table.entries)
    (hfull : (cur.staging ++ [w]).length = cur.table.width)
    (h : Fills words (c.setEntry cur.table cur.index (cur.staging ++ [w]))
      { cur with staging := [], index := cur.index + 1 } r) :
    Fills (w :: words) c cur { r with taken := r.taken + 1 } := by
  obtain ⟨htaken, hcursor, hfilled, hkept, hothers⟩ := h
  have hpos := cur.table.width_pos
  have hafter : Cursor.passed { cur with staging := [], index := cur.index + 1 } words r = words.take r.taken := rfl
  have hpassed := cur.passed_cons w words r
  have hlength : (cur.passed (w :: words) { r with taken := r.taken + 1 }).length =
      (words.take r.taken).length + cur.table.width := by rw [hpassed, List.length_append, hfull, Nat.add_comm]
  have hdrop : ∀ k, (cur.passed (w :: words) { r with taken := r.taken + 1 }).drop ((k + 1) * cur.table.width) =
      (words.take r.taken).drop (k * cur.table.width) := by
    intro k
    rw [hpassed, Nat.succ_mul, Nat.add_comm, ← hfull, List.drop_length_add_append]
  have hwritten : ∀ j, (c.setEntry cur.table cur.index (cur.staging ++ [w])).entry cur.table j =
      if cur.index = j then cur.staging ++ [w] else c.entry cur.table j := fun j =>
    Contents.entry_setEntry hc _ _ _ _ hindex
  have hnext : cur.index + 1 ≤ r.cursor.index := by rw [hcursor]; exact Nat.le_add_right _ _
  refine ⟨?taken, ?cursor, fun j hle hlt => ?filled, fun j hj => ?kept, fun t ht => ?others⟩
  case taken =>
    have hroom : (cur.table.entries - cur.index) * cur.table.width =
        (cur.table.entries - (cur.index + 1)) * cur.table.width + cur.table.width := by
      rw [← Nat.succ_mul]
      congr 1
      omega
    simp only [List.length_append, List.length_nil, List.length_cons] at htaken hfull ⊢
    omega
  case cursor =>
    rw [hlength, Nat.add_div_right _ hpos, hdrop]
    rw [hafter] at hcursor
    simp only [hcursor, Nat.add_assoc, Nat.add_comm 1]
  case filled =>
    rcases Nat.eq_or_lt_of_le hle with rfl | hlt'
    · rw [hkept cur.index (.inl (Nat.lt_succ_self _)), hwritten, if_pos rfl, hpassed, Nat.sub_self, Nat.zero_mul,
        List.drop_zero, List.take_append_of_le_length hfull.ge, List.take_of_length_le hfull.le]
    · rw [hfilled j hlt' hlt, hafter, show j - cur.index = j - (cur.index + 1) + 1 by omega, hdrop]
  case kept =>
    replace hj : j < cur.index ∨ r.cursor.index ≤ j := hj
    have houtside : j < cur.index + 1 ∨ r.cursor.index ≤ j := by omega
    have hne : cur.index ≠ j := by omega
    rw [hkept j houtside, hwritten, if_neg hne]
  case others =>
    rw [hothers t ht, Contents.setEntry, Contents.table_setTable, if_neg ht.symm]

end

/-- The words of a DATA are taken in order until the table's end (R40). -/
theorem fills_writeWords (words : List Word) {c : Contents} {cur : Cursor} (hc : c.shaped) (hok : cur.ok)
    (hwrite : cur.direction = .write) : Fills words c cur (writeWords words c cur) := by
  have hstaging : ∀ cur : Cursor, cur.ok → cur.direction = .write → cur.staging.length < cur.table.width := by
    intro cur hok hwrite
    obtain ⟨-, hd⟩ := hok
    rw [hwrite] at hd
    exact hd.1
  induction words generalizing c cur with
  | nil => exact Fills.stop (hstaging cur hok hwrite) (.inl rfl)
  | cons w words ih =>
    unfold writeWords
    split
    · next hindex =>
      obtain ⟨hok', hwrite'⟩ := Cursor.ok_takeWord hok hwrite hindex c w
      have hrest := ih (Contents.shaped_takeWord hc cur w) hok' hwrite'
      by_cases hfull : (cur.staging ++ [w]).length = cur.table.width
      · have htake : cur.takeWord c w = (c.setEntry cur.table cur.index (cur.staging ++ [w]),
            { cur with staging := [], index := cur.index + 1 }) := if_pos hfull
        rw [htake] at hrest ⊢
        exact Fills.entry hc hindex hfull hrest
      · have htake : cur.takeWord c w = (c, { cur with staging := cur.staging ++ [w] }) := if_neg hfull
        rw [htake] at hrest hok' hwrite' ⊢
        exact Fills.stage hindex (hstaging _ hok' hwrite') hrest
    · next hindex => exact Fills.stop (hstaging cur hok hwrite) (.inr (Nat.not_lt.mp hindex))

/-- DATA is served by its item. -/
theorem exec_data (s : State) : exec .data s = .next (s.serve .data dataItem) := rfl

section
variable {s : State} {payload : List Byte} (p : PortId)

/-- DATA on an idle cursor (R40). -/
theorem dataItem_idle (h : s.store.cursor = none) : dataItem p payload s = s.reply .mode := by
  rw [dataItem, h]

variable {cur : Cursor} (h : s.store.cursor = some cur)
include h

/-- DATA on a READ cursor (R40). -/
theorem dataItem_read (hr : cur.direction = .read) : dataItem p payload s = s.reply .mode := by
  rw [dataItem, h]
  dsimp only
  rw [hr]

variable (hw : cur.direction = .write)
include hw

/-- DATA on a WRITE cursor, by its bank's state (R40). -/
theorem dataItem_write : dataItem p payload s =
    if (s.bank cur.bank).state ≠ .opened then s.reply .state
    else
      ⟨(s.setBank cur.bank { s.bank cur.bank with
          contents := (writeWords (wordsOf payload) (s.bank cur.bank).contents cur).contents }).setCursor
          (some (writeWords (wordsOf payload) (s.bank cur.bank).contents cur).cursor),
        if (writeWords (wordsOf payload) (s.bank cur.bank).contents cur).taken = (wordsOf payload).length then .done
        else .range,
        bytesOf 1 (writeWords (wordsOf payload) (s.bank cur.bank).contents cur).taken ++
          bytesOf 1 (writeWords (wordsOf payload) (s.bank cur.bank).contents cur).cursor.index⟩ := by
  rw [dataItem, h]
  dsimp only
  rw [hw]

end

/-- Settles O27: the checks in order, and the words taken as an induction over them. -/
theorem dataFillsTheEntriesAtTheCursorInOrder : Obligations.DataFillsTheEntriesAtTheCursorInOrder := by
  refine ⟨fun s p h hg => ?_, fun words c cur hc hok hwrite => ?_⟩
  · rw [exec_data]
    refine ⟨fun hidle => State.serve_refuses hg (dataItem_idle p hidle), fun cur hcur =>
      ⟨fun hread => State.serve_refuses hg (dataItem_read p hcur hread), fun hwrite hstate => ?_,
        fun hwrite hopened => ?_⟩⟩
    · exact State.serve_refuses hg ((dataItem_write p (s := s.granting p) hcur hwrite).trans (if_pos hstate))
    · exact State.serve_answers hg
        ((dataItem_write p (s := s.granting p) hcur hwrite).trans (if_neg (not_not.mpr hopened)))
  · obtain ⟨htaken, hcursor, hfilled, hkept, hothers⟩ := fills_writeWords words hc hok hwrite
    exact ⟨htaken, hcursor, hfilled, hkept, hothers, shaped_writeWords words hc cur⟩

/-! ### Words returned in READ direction (R41) -/

/-- The words ahead of a READ cursor: the rest of the staged entry, then the entries after it. -/
def Cursor.ahead (cur : Cursor) (c : Contents) : List Word :=
  cur.staging.drop cur.returned ++ ((c.table cur.table).drop (cur.index + 1)).flatten

/-- The entries from one on begin with the one the cursor loads there (R41). -/
theorem loadEntry_append_rest {c : Contents} (hc : c.shaped) (t : Table) (i : Nat) :
    loadEntry c t i ++ ((c.table t).drop (i + 1)).flatten = ((c.table t).drop i).flatten := by
  have hlength := Contents.shaped_length hc t
  unfold loadEntry
  split
  · next h =>
    rw [← hlength] at h
    rw [Contents.entry, List.getD_eq_getElem _ _ h, List.drop_eq_getElem_cons h, List.flatten_cons]
  · next h =>
    rw [← hlength] at h
    rw [List.drop_eq_nil_of_le (by omega), List.drop_eq_nil_of_le (by omega)]
    rfl

/-- The next word is the first of those ahead, and leaves the others (R41). -/
theorem Cursor.ahead_stepRead {cur : Cursor} {c : Contents} {w : Word} (hc : c.shaped)
    (hw : cur.staging[cur.returned]? = some w) : cur.ahead c = w :: (cur.stepRead c).ahead c := by
  obtain ⟨hlt, rfl⟩ := List.getElem?_eq_some_iff.mp hw
  unfold Cursor.stepRead
  rw [Cursor.ahead, List.drop_eq_getElem_cons hlt, List.cons_append]
  congr 1
  split
  · next hlast =>
    rw [List.drop_eq_nil_of_le hlast.ge, List.nil_append]
    exact (loadEntry_append_rest hc cur.table (cur.index + 1)).symm
  · rfl

/-- A READ cursor with no next word is past the table's last entry: nothing is ahead (R41). -/
theorem Cursor.ahead_of_end {cur : Cursor} {c : Contents} (hc : c.shaped) (hok : cur.ok) (hr : cur.direction = .read)
    (hend : cur.staging[cur.returned]? = none) : cur.ahead c = [] := by
  obtain ⟨hindex, hd⟩ := hok
  rw [hr] at hd
  dsimp only at hd
  split at hd
  · have := List.getElem?_eq_none_iff.mp hend
    omega
  · next hlast =>
    have hlength := Contents.shaped_length hc cur.table
    have hrest : (c.table cur.table).drop (cur.index + 1) = [] := List.drop_eq_nil_of_le (by omega)
    rw [Cursor.ahead, hd.1, hrest, List.drop_nil]
    rfl

/-- Reading keeps the cursor's bank, table and direction (R41). -/
theorem readWords_place (c : Contents) (n : Nat) (cur : Cursor) :
    (readWords c n cur).2.bank = cur.bank ∧ (readWords c n cur).2.table = cur.table ∧
      (readWords c n cur).2.direction = cur.direction := by
  have hstep : ∀ cur : Cursor, (cur.stepRead c).bank = cur.bank ∧ (cur.stepRead c).table = cur.table ∧
      (cur.stepRead c).direction = cur.direction := by
    intro cur
    unfold Cursor.stepRead
    split <;> exact ⟨rfl, rfl, rfl⟩
  induction n generalizing cur with
  | zero => exact ⟨rfl, rfl, rfl⟩
  | succ n ih =>
    unfold readWords
    split
    · obtain ⟨hbank, htable, hdirection⟩ := ih (cur.stepRead c)
      obtain ⟨hbank', htable', hdirection'⟩ := hstep cur
      exact ⟨hbank.trans hbank', htable.trans htable', hdirection.trans hdirection'⟩
    · exact ⟨rfl, rfl, rfl⟩

/-- A step of reading keeps the cursor in order and its direction (R41). -/
theorem Cursor.ok_stepRead {cur : Cursor} {c : Contents} (hc : c.shaped) (hok : cur.ok) (hr : cur.direction = .read)
    {w : Word} (hw : cur.staging[cur.returned]? = some w) :
    (cur.stepRead c).ok ∧ (cur.stepRead c).direction = .read := by
  have hone : (readWords c 1 cur).2 = cur.stepRead c := by
    unfold readWords
    rw [hw]
    rfl
  rw [← hone]
  exact ⟨ok_readWords hc 1 hok hr, (readWords_place c 1 cur).2.2.trans hr⟩

/-- The words returned are the next ones ahead, and leave the others ahead (R41). -/
theorem readWords_eq {c : Contents} (hc : c.shaped) (n : Nat) {cur : Cursor} (hok : cur.ok)
    (hr : cur.direction = .read) :
    (readWords c n cur).1 = (cur.ahead c).take n ∧ (readWords c n cur).2.ahead c = (cur.ahead c).drop n := by
  induction n generalizing cur with
  | zero => exact ⟨rfl, rfl⟩
  | succ n ih =>
    unfold readWords
    split
    · next w hw =>
      obtain ⟨hok', hr'⟩ := Cursor.ok_stepRead hc hok hr hw
      obtain ⟨hwords, hrest⟩ := ih hok' hr'
      rw [Cursor.ahead_stepRead hc hw]
      exact ⟨congrArg (w :: ·) hwords, hrest⟩
    · next hend =>
      dsimp only
      rw [Cursor.ahead_of_end hc hok hr hend]
      exact ⟨rfl, rfl⟩

/-- READ DATA is served by its item. -/
theorem exec_readData (s : State) : exec .readData s = .next (s.serve .readData readDataItem) := rfl

section
variable {s : State} {payload : List Byte} (p : PortId)

/-- READ DATA refuses a count outside 1 to 15 (R41). -/
theorem readDataItem_range (h : byteAt payload 0 = 0 ∨ 15 < byteAt payload 0) :
    readDataItem p payload s = s.reply .range := by
  rw [readDataItem, if_pos]
  simp only [within, Bool.not_eq_true', Bool.and_eq_false_iff, decide_eq_false_iff_not]
  omega

variable (h1 : 1 ≤ byteAt payload 0) (h15 : byteAt payload 0 ≤ 15)
include h1 h15

/-- READ DATA with a count of 1 to 15 goes by the cursor (R41). -/
theorem readDataItem_count : readDataItem p payload s =
    match s.store.cursor with
    | none => s.reply .mode
    | some cur =>
      match cur.direction with
      | .write => s.reply .mode
      | .read =>
        ⟨s.setCursor (some (readWords (s.bank cur.bank).contents (byteAt payload 0) cur).2),
          if (readWords (s.bank cur.bank).contents (byteAt payload 0) cur).1.length = byteAt payload 0 then .done
          else .range,
          (readWords (s.bank cur.bank).contents (byteAt payload 0) cur).1.flatMap bytesOfWord⟩ := by
  rw [readDataItem]
  exact if_neg (by simp [within, h1, h15])

/-- READ DATA on an idle cursor (R41). -/
theorem readDataItem_idle (h : s.store.cursor = none) : readDataItem p payload s = s.reply .mode := by
  rw [readDataItem_count p h1 h15, h]

/-- READ DATA on a WRITE cursor (R41). -/
theorem readDataItem_write {cur : Cursor} (h : s.store.cursor = some cur) (hw : cur.direction = .write) :
    readDataItem p payload s = s.reply .mode := by
  rw [readDataItem_count p h1 h15, h]
  dsimp only
  rw [hw]

/-- READ DATA on a READ cursor returns the next words ahead (R41). -/
theorem readDataItem_read {cur : Cursor} (h : s.store.cursor = some cur) (hr : cur.direction = .read) (hok : cur.ok)
    (hc : (s.bank cur.bank).contents.shaped) : readDataItem p payload s =
      ⟨s.setCursor (some (readWords (s.bank cur.bank).contents (byteAt payload 0) cur).2),
        if byteAt payload 0 ≤ (cur.ahead (s.bank cur.bank).contents).length then .done else .range,
        ((cur.ahead (s.bank cur.bank).contents).take (byteAt payload 0)).flatMap bytesOfWord⟩ := by
  rw [readDataItem_count p h1 h15, h]
  dsimp only
  rw [hr]
  dsimp only
  rw [(readWords_eq hc _ hok hr).1, List.length_take]
  simp only [min_eq_left_iff]

end

/-- Settles O28: the checks in order, and the words returned as an induction over their number. -/
theorem readDataReturnsTheNextWords : Obligations.ReadDataReturnsTheNextWords := by
  intro s p h hg n
  rw [exec_readData]
  refine ⟨fun hrange => State.serve_refuses hg (readDataItem_range p hrange), fun h1 h15 =>
    ⟨fun hidle => State.serve_refuses hg (readDataItem_idle p h1 h15 hidle), fun cur hcur =>
      ⟨fun hwrite => State.serve_refuses hg (readDataItem_write p h1 h15 hcur hwrite), fun hread hok hc => ?_⟩⟩⟩
  obtain ⟨hbank, htable, hdirection⟩ := readWords_place (s.bank cur.bank).contents n cur
  refine ⟨(readWords (s.bank cur.bank).contents n cur).2, ok_readWords hc n hok hread, hbank, htable,
    hdirection.trans hread, ?_, State.serve_answers hg (readDataItem_read p h1 h15 (s := s.granting p) hcur hread hok hc)⟩
  have hrest := (readWords_eq hc n hok hread).2
  rw [Cursor.ahead, htable] at hrest
  exact hrest

end Sys2Proof.Machine
end

section
/-! The settings: windows and the default disposition (R42, R43), SET AUDIO (R103), SET ROLE (R162). -/

namespace Sys2Proof.Machine

/-! ### SET WINDOW and SET DEFAULT (R42, R43) -/

/-- SET WINDOW is served by its item. -/
theorem exec_setWindow (s : State) : exec .setWindow s = .next (s.serve .setWindow setWindowItem) := rfl

/-- SET DEFAULT is served by its item. -/
theorem exec_setDefault (s : State) : exec .setDefault s = .next (s.serve .setDefault setDefaultItem) := rfl

/-- The payload of SET WINDOW (R42, R177). -/
def windowPayload (window enable : Byte) (base mask : Word) (bank : Byte) : List Byte :=
  [window, enable] ++ bytesOfWord base ++ bytesOfWord mask ++ [bank]

section
variable {s : State} (p : PortId) {window enable bank : Byte} {base mask : Word}

/-- SET WINDOW refuses what names no window, no setting or no bank (R42). -/
theorem setWindowItem_range (h : 7 < window.toNat ∨ 1 < enable.toNat ∨ 7 < bank.toNat) :
    setWindowItem p (windowPayload window enable base mask bank) s = s.reply .range := by
  unfold setWindowItem
  dsimp only
  split
  · next i on b hi hon hb =>
    have hwindow : window.toNat = i.val := (below8_eq_some_iff _ _).mp hi
    have henable : enable.toNat = on.toNat := (settingOf_eq_some_iff _ _).mp hon
    have hbank : bank.toNat = b.val := (below8_eq_some_iff _ _).mp hb
    have := on.toNat_le
    omega
  · rfl

variable {i : Fin 8} {on : Bool} {b : BankId} (hi : window.toNat = i.val) (hon : enable.toNat = on.toNat)
  (hb : bank.toNat = b.val)
include hi hon hb

/-- SET WINDOW of fields within their values, by the base and the mask (R42). -/
theorem setWindowItem_named : setWindowItem p (windowPayload window enable base mask bank) s =
    if base &&& ~~~mask ≠ 0 then s.reply .malformed
    else ({ s with store := { s.store with
      windows := s.store.windows.set i.val ⟨on, base, mask, b⟩ i.isLt } } : State).reply .done := by
  have hbase : field (windowPayload window enable base mask bank) 2 4 = bytesOfWord base := rfl
  have hmask : field (windowPayload window enable base mask bank) 6 4 = bytesOfWord mask := rfl
  have hwindow : below8 (byteAt (windowPayload window enable base mask bank) 0) = some i := below8_of_eq hi
  have henable : settingOf ((windowPayload window enable base mask bank).getD 1 0) = some on :=
    (settingOf_eq_some_iff _ _).mpr hon
  have hbank : below8 (byteAt (windowPayload window enable base mask bank) 10) = some b := below8_of_eq hb
  rw [setWindowItem, hbase, hmask, ofNat_natOf_bytesOfWord, ofNat_natOf_bytesOfWord, hwindow, henable, hbank]

end

/-- A byte above 7 that is not FFh names no disposition (R173). -/
theorem dispositionOf_eq_none {d : Byte} (h : 7 < d.toNat) (hd : d ≠ 0xFF) : dispositionOf d = none := by
  rw [dispositionOf, if_neg hd, below8_of_seven_lt h]
  rfl

/-- A bank's number names that bank's disposition (R173). -/
theorem dispositionOf_bank {d : Byte} {b : BankId} (h : d.toNat = b.val) : dispositionOf d = some (some b) := by
  rw [dispositionOf, if_neg, below8_of_eq h]
  · rfl
  · rintro rfl
    exact absurd b.isLt (by rw [← h]; decide)

/-- SET DEFAULT by the disposition its byte names (R43). -/
theorem setDefaultItem_named {s : State} (p : PortId) {d : Byte} {x : Option BankId} (h : dispositionOf d = some x) :
    setDefaultItem p [d] s = ({ s with store := { s.store with fallback := x } } : State).reply .done := by
  rw [setDefaultItem, List.getD_cons_zero, h]

/-- Settles O29: each request by what its bytes name. -/
theorem windowsAndDefaultAreReplacedWhole : Obligations.WindowsAndDefaultAreReplacedWhole := by
  intro s p h
  refine ⟨fun hg window enable bank base mask hp => ?window, fun hg d hp => ?default⟩
  case window =>
    rw [exec_setWindow]
    replace hp : h.payload = windowPayload window enable base mask bank := hp
    refine ⟨fun hrange => State.serve_refuses hg (hp ▸ setWindowItem_range p hrange), fun i on b hi hon hb => ?_⟩
    have hitem := setWindowItem_named p (s := s.granting p) (base := base) (mask := mask) hi hon hb
    exact ⟨fun hbad => State.serve_refuses hg (hp ▸ hitem.trans (if_pos hbad)),
      fun hgood => State.serve_answers hg (hp ▸ hitem.trans (if_neg (not_not.mpr hgood)))⟩
  case default =>
    rw [exec_setDefault]
    refine ⟨fun hd hff => State.serve_refuses hg (hp ▸ ?_), ?_, fun b hb =>
      State.serve_answers hg (hp ▸ setDefaultItem_named p (dispositionOf_bank hb))⟩
    · rw [setDefaultItem, List.getD_cons_zero, dispositionOf_eq_none hd hff]
    · rintro rfl
      exact State.serve_answers hg (hp ▸ setDefaultItem_named p rfl)

/-! ### The bytes of the audio configuration (R88, R173) -/

/-- A byte names the audio mode whose byte it is. -/
theorem AudioMode.ofByte_eq_some_iff (b : Byte) (x : AudioMode) : AudioMode.ofByte b = some x ↔ x.byte = b := by
  constructor
  · unfold AudioMode.ofByte
    split_ifs with h0 h1 <;> rintro ⟨⟩ <;> simp [AudioMode.byte, *]
  · rintro rfl
    cases x <;> rfl

/-- A byte names the framing whose byte it is. -/
theorem Framing.ofByte_eq_some_iff (b : Byte) (x : Framing) : Framing.ofByte b = some x ↔ x.byte = b := by
  constructor
  · unfold Framing.ofByte
    split_ifs with h0 h1 <;> rintro ⟨⟩ <;> simp [Framing.byte, *]
  · rintro rfl
    cases x <;> rfl

/-- A byte names the polarity whose byte it is. -/
theorem levelOfByte_eq_some_iff (b : Byte) (x : AwsLevel) : levelOfByte b = some x ↔ x.byte = b := by
  constructor
  · unfold levelOfByte
    split_ifs with h0 h1 <;> rintro ⟨⟩ <;> simp [AwsLevel.byte, *]
  · rintro rfl
    cases x <;> rfl

/-- A byte names the source whose byte it is. -/
theorem AudioSource.ofByte_eq_some_iff (b : Byte) (x : AudioSource) : AudioSource.ofByte b = some x ↔ x.byte = b := by
  constructor
  · unfold AudioSource.ofByte
    split_ifs with h0 h1 h2 <;> rintro ⟨⟩ <;> simp [AudioSource.byte, *]
  · rintro rfl
    cases x <;> rfl

/-- A byte names the width setting whose byte it is. -/
theorem widthOfByte_eq_some_iff (b : Byte) (x : Option WordWidth) : widthOfByte b = some x ↔ widthByte x = b := by
  constructor
  · unfold widthOfByte
    split_ifs with h0 h1 h2 h3 <;> rintro ⟨⟩ <;> simp [widthByte, WordWidth.bits, *]
  · rintro rfl
    rcases x with _ | (_ | _ | _) <;> rfl

/-- The payload of SET AUDIO gives the configuration of its seven fields, where each lies within its values (R103). -/
theorem audioOf_eq_some_iff (m w f q r d n : Byte) (cfg : AudioConfig) :
    audioOf [m, w, f, q, r, d, n] = some cfg ↔ cfg.mode.byte = m ∧ widthByte cfg.width = w ∧ cfg.framing.byte = f ∧
      cfg.leftLevel.byte = q ∧ cfg.source.byte = r ∧ cfg.div = d ∧ cfg.pulses = n.toNat ∧
      1 ≤ cfg.pulses ∧ cfg.pulses ≤ 240 := by
  have hbytes : audioOf [m, w, f, q, r, d, n] = (AudioMode.ofByte m).bind fun mode => (widthOfByte w).bind fun width =>
      (Framing.ofByte f).bind fun framing => (levelOfByte q).bind fun level => (AudioSource.ofByte r).bind fun source =>
      if 1 ≤ n.toNat ∧ n.toNat ≤ 240 then some ⟨mode, width, framing, level, source, d, n.toNat⟩ else none := rfl
  rw [hbytes]
  simp only [Option.bind_eq_some_iff, AudioMode.ofByte_eq_some_iff, widthOfByte_eq_some_iff,
    Framing.ofByte_eq_some_iff, levelOfByte_eq_some_iff, AudioSource.ofByte_eq_some_iff]
  constructor
  · rintro ⟨mode, hm, width, hw, framing, hf, level, hq, source, hr, h⟩
    split_ifs at h with hn
    obtain rfl := Option.some.inj h
    exact ⟨hm, hw, hf, hq, hr, rfl, rfl, hn⟩
  · rintro ⟨hm, hw, hf, hq, hr, rfl, hn, hpulses⟩
    refine ⟨_, hm, _, hw, _, hf, _, hq, _, hr, ?_⟩
    rw [if_pos (hn ▸ hpulses), ← hn]

/-- The bytes of fields within their values. -/
theorem AudioConfig.bytes_range (cfg : AudioConfig) : cfg.mode.byte.toNat ≤ 1 ∧
    (widthByte cfg.width = 0 ∨ widthByte cfg.width = 16 ∨ widthByte cfg.width = 24 ∨ widthByte cfg.width = 32) ∧
    cfg.framing.byte.toNat ≤ 1 ∧ cfg.leftLevel.byte.toNat ≤ 1 ∧ cfg.source.byte.toNat ≤ 2 := by
  refine ⟨?_, ?_, ?_, ?_, ?_⟩
  · cases cfg.mode <;> decide
  · rcases cfg.width with _ | (_ | _ | _) <;> decide
  · cases cfg.framing <;> decide
  · cases cfg.leftLevel <;> decide
  · cases cfg.source <;> decide

/-- A payload with a field outside its values gives no configuration (R103). -/
theorem audioOf_eq_none {m w f q r d n : Byte} (h : 1 < m.toNat ∨ (w ≠ 0 ∧ w ≠ 16 ∧ w ≠ 24 ∧ w ≠ 32) ∨ 1 < f.toNat ∨
    1 < q.toNat ∨ 2 < r.toNat ∨ n = 0 ∨ 240 < n.toNat) : audioOf [m, w, f, q, r, d, n] = none := by
  refine Option.eq_none_iff_forall_ne_some.mpr fun cfg hcfg => ?_
  obtain ⟨rfl, rfl, rfl, rfl, rfl, -, hn, h1, h240⟩ := (audioOf_eq_some_iff m w f q r d n cfg).mp hcfg
  obtain ⟨hm, hw, hf, hq, hr⟩ := cfg.bytes_range
  rcases h with h | ⟨h0, h16, h24, h32⟩ | h | h | h | rfl | h
  · omega
  · rcases hw with hw | hw | hw | hw <;> contradiction
  · omega
  · omega
  · omega
  · exact absurd (hn ▸ h1) (by decide)
  · omega

/-- SET AUDIO is served by its item. -/
theorem exec_setAudio (s : State) : exec .setAudio s = .next (s.serve .setAudio setAudioItem) := rfl

/-- SET AUDIO with a configuration, by its checks in order (R103). -/
theorem setAudioItem_named {s : State} (p : PortId) {payload : List Byte} {cfg : AudioConfig}
    (h : audioOf payload = some cfg) : setAudioItem p payload s =
      if cfg.mode = .master ∧ cfg.width.isNone then s.reply .mode
      else if (s.chan .n).state ≠ .idle then s.reply .inTest
      else ({ s with
        audio := cfg
        input := { s.input with detected := none, edges := 0, place := .before, left := none } } : State).reply .done := by
  rw [setAudioItem, h]

/-- Settles O30: the configuration the bytes give, then the checks in order. -/
theorem setAudioReplacesTheConfiguration : Obligations.SetAudioReplacesTheConfiguration := by
  intro s p h m w f q r d n hg hp
  rw [exec_setAudio]
  refine ⟨fun hbad => State.serve_refuses hg (hp ▸ ?_), fun cfg hm hw hf hq hr hd hn h1 h240 => ?_⟩
  · rw [setAudioItem, audioOf_eq_none hbad]
  · have hitem := setAudioItem_named (s := s.granting p) p
      ((audioOf_eq_some_iff m w f q r d n cfg).mpr ⟨hm, hw, hf, hq, hr, hd, hn, h1, h240⟩)
    refine ⟨fun hmaster hauto => State.serve_refuses hg (hp ▸ hitem.trans (if_pos ⟨hmaster, by rw [hauto]; rfl⟩)),
      fun hwidth => ?_⟩
    have hsettable : ¬(cfg.mode = .master ∧ cfg.width.isNone = true) := by
      rwa [Option.isNone_iff_eq_none]
    exact ⟨fun hbusy => State.serve_refuses hg (hp ▸ hitem.trans ((if_neg hsettable).trans (if_pos hbusy))),
      fun hidle => State.serve_answers hg
        (hp ▸ hitem.trans ((if_neg hsettable).trans (if_neg (not_not.mpr hidle))))⟩

/-! ### SET ROLE (R162) -/

/-- A role is read back from its byte (R173). -/
theorem Role.ofByte_byte (r : Role) : Role.ofByte r.byte = some r := by
  cases r <;> rfl

/-- A byte that names a role is that role's byte (R173). -/
theorem Role.byte_of_ofByte {b : Byte} {r : Role} (h : Role.ofByte b = some r) : r.byte = b := by
  simpa using List.find?_some h

/-- The roles but SUPERVISOR are numbered 0 to 7 (R173). -/
theorem Role.byte_le {r : Role} (h : r ≠ .supervisor) : r.byte.toNat ≤ 7 := by
  cases r <;> simp [Role.byte] at h ⊢

/-- SET ROLE is served by its item. -/
theorem exec_setRole (s : State) : exec .setRole s = .next (s.serve .setRole setRoleItem) := rfl

/-- A role is busy where its channel is bound (R162). -/
theorem State.roleBusy_iff (s : State) (r : Role) :
    s.roleBusy r = true ↔ ∃ c : ChannelId, r = c.role ∧ (s.chan c).state ≠ .idle := by
  unfold State.roleBusy
  cases hc : r.channel with
  | none =>
    have hno := (Role.channel_eq_none r).mp hc
    simp only [Bool.false_eq_true, false_iff, not_exists, not_and]
    exact fun c hr => absurd hr (hno c)
  | some c =>
    have hr := (Role.channel_eq_some r c).mp hc
    dsimp only
    rw [bne_iff_ne]
    constructor
    · exact fun hbusy => ⟨c, hr, hbusy⟩
    · rintro ⟨d, hd, hbusy⟩
      have hcd : r.channel = some d := (Role.channel_eq_some r d).mpr hd
      rw [hc] at hcd
      rwa [Option.some.inj hcd]

/-- Another port holds a role (R162). -/
theorem State.anyOther_iff (s : State) (q : PortId) (r : Role) :
    allPorts.any (fun x => x != q && (s.port x).role == r) = true ↔ ∃ x : PortId, x ≠ q ∧ (s.port x).role = r := by
  simp [List.any_eq_true, mem_allPorts]

section
variable {s : State} (p : PortId) {port role : Byte}

/-- SET ROLE refuses port 0, what is no port, and what is no role but SUPERVISOR (R162). -/
theorem setRoleItem_range (h : port = 0 ∨ 7 < port.toNat ∨ 7 < role.toNat) :
    setRoleItem p [port, role] s = s.reply .range := by
  unfold setRoleItem
  split
  · next q r hq hr =>
    have hport : port.toNat = q.val := (below8_eq_some_iff _ _).mp hq
    have hrole : r.byte = role := Role.byte_of_ofByte hr
    refine if_pos ?_
    rcases h with rfl | h | h
    · exact .inl (Fin.ext hport.symm)
    · exact absurd q.isLt (by omega)
    · exact .inr (by_contra fun hne => absurd (Role.byte_le hne) (by rw [hrole]; omega))
  · rfl

/-- SET ROLE of a port but 0 and a role but SUPERVISOR, by its checks in order (R162). -/
theorem setRoleItem_named {q : PortId} {r : Role} (hq0 : q ≠ 0) (hr : r ≠ .supervisor) (hq : port.toNat = q.val) :
    setRoleItem p [port, r.byte] s =
      if s.roleBusy (s.port q).role then s.reply .inTest
      else if r ≠ .unassigned ∧ allPorts.any (fun x => x != q && (s.port x).role == r) then s.reply .inUse
      else (s.setPort q { s.port q with role := r }).reply .done := by
  have hport : below8 (byteAt [port, r.byte] 0) = some q := below8_of_eq hq
  have hrole : Role.ofByte ([port, r.byte].getD 1 0) = some r := r.ofByte_byte
  rw [setRoleItem, hport, hrole]
  exact if_neg (by rintro (h | h) <;> contradiction)

end

/-- Settles O31: the checks in order. -/
theorem setRoleKeepsEachRoleAtOnePort : Obligations.SetRoleKeepsEachRoleAtOnePort := by
  intro s p h port role hg hp
  rw [exec_setRole]
  refine ⟨fun hbad => State.serve_refuses hg (hp ▸ setRoleItem_range p hbad), ?_⟩
  rintro q r hq0 hr hq rfl
  have hitem := setRoleItem_named p (s := s.granting p) hq0 hr hq
  refine ⟨fun c hrole hbusy => State.serve_refuses hg (hp ▸ hitem.trans (if_pos ?_)), fun hidle => ?_⟩
  · exact ((s.granting p).roleBusy_iff _).mpr ⟨c, hrole, hbusy⟩
  · have hfree : ¬(s.granting p).roleBusy ((s.granting p).port q).role = true := fun hbusy => by
      obtain ⟨c, hrole, hne⟩ := ((s.granting p).roleBusy_iff _).mp hbusy
      exact hne (hidle c hrole)
    have hother := (s.granting p).anyOther_iff q r
    refine ⟨fun hne hheld => State.serve_refuses hg (hp ▸ hitem.trans ((if_neg hfree).trans (if_pos ?_))),
      fun hnone => State.serve_answers hg (hp ▸ hitem.trans ((if_neg hfree).trans (if_neg ?_)))⟩
    · exact ⟨hne, hother.mpr hheld⟩
    · rintro ⟨hne, hheld⟩
      obtain ⟨x, hx, hxr⟩ := hother.mp hheld
      rcases hnone with h0 | hno
      · exact hne h0
      · exact hno x hx hxr

end Sys2Proof.Machine
end

section
/-! STATUS (R166), the capture record's requests (R182) and the routing of notices (R185). -/

namespace Sys2Proof.Machine

/-! ### STATUS (R166) -/

/-- A set of ports as a byte holds the bit of each port in the set (R177). -/
theorem portSet_eq (has : PortId → Bool) : portSet has = BitVec.ofNat 8 (Nat.ofBits has) := by
  have hstep : ∀ (acc : Nat) (p : PortId), (if has p then acc + 2 ^ p.val else acc) = acc + 2 ^ p.val * (has p).toNat := by
    intro acc p
    cases has p <;> simp
  simp only [portSet, hstep]
  congr 1
  simp [allPorts, Nat.ofBits, Fin.foldr_succ]
  omega

/-- The bit of a port in a set of ports (R177). -/
theorem getLsbD_portSet (has : PortId → Bool) (q : PortId) : (portSet has).getLsbD q.val = has q := by
  rw [portSet_eq, BitVec.getLsbD_ofNat, Nat.testBit_ofBits_lt _ _ q.isLt]
  simp [q.isLt]

/-- STATUS is served by its item. -/
theorem exec_status (s : State) : exec .status s = .next (s.serve .status statusItem) := rfl

/-- STATUS clears the two flags of each port (R166). -/
theorem State.port_clearFlags (s : State) (q : PortId) :
    s.clearFlags.port q = { s.port q with garbled := false, overrun := false } := by
  simp [State.clearFlags, State.port]

/-- The roles of ports 1 to 7 in STATUS's answer (R177). -/
theorem State.statusBytes_role (s : State) {q : PortId} (h : q ≠ 0) :
    s.statusBytes.getD (1 + q.val) 0 = (s.port q).role.byte := by
  fin_cases q
  · exact absurd rfl h
  all_goals rfl

/-- The priorities in STATUS's answer (R177). -/
theorem State.statusBytes_priority (s : State) (q : PortId) :
    (s.statusBytes.getD (10 + q.val) 0).toNat = s.priority q := by
  have hbyte : s.statusBytes.getD (10 + q.val) 0 = BitVec.ofNat 8 (s.priority q / 1) := by
    fin_cases q <;> rfl
  have hlt : s.priority q < 8 := (s.arbiter.priorities[q]).isLt
  rw [hbyte, Nat.div_one, BitVec.toNat_ofNat, Nat.mod_eq_of_lt (by omega)]

/-! ### The routing of notices (R184, R185) -/

/-- A notice kind's byte names that kind (R185). -/
theorem NoticeKind.ofByte_byte (k : NoticeKind) : NoticeKind.ofByte k.byte = some k := by cases k <;> rfl

/-- 0 and what is above 4 names no notice kind (R185). -/
theorem NoticeKind.ofByte_eq_none {b : Byte} (h : b = 0 ∨ 4 < b.toNat) : NoticeKind.ofByte b = none := by
  rcases h with rfl | h
  · rfl
  · have hne : ∀ k : NoticeKind, b ≠ k.byte := by
      rintro k rfl
      cases k <;> simp [NoticeKind.byte] at h
    exact (if_neg (hne .verdict)).trans ((if_neg (hne .lapse)).trans ((if_neg (hne .fault)).trans (if_neg (hne .stray))))

/-- A kind's row replaced is read back, and the other rows stay (R185). -/
theorem Router.route_setRoute (r : Router) (k x : NoticeKind) (v : Route) :
    (r.setRoute k v).route x = if k = x then v else r.route x := by
  cases k <;> cases x <;> rfl

/-- Replacing a row keeps the capture record and the multiple notice switch. -/
theorem Router.setRoute_keeps (r : Router) (k : NoticeKind) (v : Route) :
    (r.setRoute k v).capture = r.capture ∧ (r.setRoute k v).multi = r.multi := by
  cases k <;> exact ⟨rfl, rfl⟩

/-- The enables of a kind set's kinds are set, the others stay (R185). -/
theorem Router.route_enableKinds (r : Router) (set : Byte) (on : Bool) (k : NoticeKind) :
    (r.enableKinds set on).route k =
      { r.route k with enable := if set.getLsbD (k.byte.toNat - 1) then on else (r.route k).enable } := by
  have hrow : (r.enableKinds set on).route k = (r.route k).enableIn set k on := by cases k <;> rfl
  have hbit : k.byte.toNat - 1 = k.bit := by cases k <;> rfl
  rw [hrow, hbit, Route.enableIn]
  split <;> rfl

/-- CLEAR CAPTURE is served by its item. -/
theorem exec_clearCapture (s : State) : exec .clearCapture s = .next (s.serve .clearCapture clearCaptureItem) := rfl

/-- SET ROUTE is served by its item. -/
theorem exec_setRoute (s : State) : exec .setRoute s = .next (s.serve .setRoute setRouteItem) := rfl

/-- The item ENABLE SET and ENABLE CLEAR share, for one setting (R185). -/
def enableItem (on : Bool) : PortId → List Byte → State → Reply := fun _ payload s => s.enableKinds (payload.getD 0 0) on

/-- ENABLE SET and ENABLE CLEAR are served by one item each (R185). -/
theorem exec_enable {on : Bool} {c : Instr} {r : Request}
    (h : (c = .enableSet ∧ r = .enableSet ∧ on = true) ∨ (c = .enableClear ∧ r = .enableClear ∧ on = false))
    (s : State) : exec c s = .next (s.serve r (enableItem on)) := by
  rcases h with ⟨rfl, rfl, rfl⟩ | ⟨rfl, rfl, rfl⟩ <;> rfl

/-- ENABLE SET and ENABLE CLEAR refuse a kind set with any of bits 4 to 7 set (R185). -/
theorem enableItem_range {s : State} (p : PortId) (on : Bool) {kinds : Byte} (h : 15 < kinds.toNat) :
    enableItem on p [kinds] s = s.reply .range :=
  if_pos h

/-- ENABLE SET and ENABLE CLEAR set the enables of the kind set (R185). -/
theorem enableItem_done {s : State} (p : PortId) (on : Bool) {kinds : Byte} (h : kinds.toNat ≤ 15) :
    enableItem on p [kinds] s = ({ s with router := s.router.enableKinds kinds on } : State).reply .done :=
  if_neg (Nat.not_le.mpr (Nat.lt_succ_of_le h))

/-- SET ROUTE refuses what names no kind (R185). -/
theorem setRouteItem_range {s : State} (p : PortId) {kind ports : Byte} (h : kind = 0 ∨ 4 < kind.toNat) :
    setRouteItem p [kind, ports] s = s.reply .range := by
  rw [setRouteItem, List.getD_cons_zero, NoticeKind.ofByte_eq_none h]

/-- SET ROUTE replaces the kind's port set (R185). -/
theorem setRouteItem_done {s : State} (p : PortId) (k : NoticeKind) (ports : Byte) :
    setRouteItem p [k.byte, ports] s =
      ({ s with router := s.router.setRoute k { s.router.route k with ports := ports } } : State).reply .done := by
  rw [setRouteItem, List.getD_cons_zero, k.ofByte_byte]
  rfl

/-- Settles O32: STATUS byte by byte, the capture record's bytes by its item, and each routing request by its byte. -/
theorem statusAndCaptureReportAndClearAndNoticesAreRouted :
    Obligations.StatusAndCaptureReportAndClearAndNoticesAreRouted := by
  refine ⟨fun s p h hg => ?status, ⟨rfl, fun x => ?capture⟩, fun s p h => ⟨fun hg => ?clear, fun hg kind ports hp => ?route,
    fun on c r hc hg kinds hp => ?enable⟩⟩
  case status =>
    have hpostings : s.arbiter.postings = [] := by
      obtain ⟨-, hgrant, -⟩ := hg
      exact (State.grant_request s hgrant).1
    refine ⟨(s.granting p).clearFlags, (s.granting p).statusBytes, ?_, (s.granting p).port_clearFlags, rfl, rfl,
      fun q => ⟨getLsbD_portSet _ q, getLsbD_portSet _ q⟩, fun q hq => (s.granting p).statusBytes_role hq, rfl,
      (s.granting p).statusBytes_priority, ?_, ?_, rfl⟩
    · rw [exec_status]
      exact State.serve_answers hg rfl
    · have hbyte : (s.granting p).statusBytes.getD 18 0 = BitVec.ofNat 8 (p.val / 1) := rfl
      rw [hbyte, Nat.div_one, BitVec.toNat_ofNat, Nat.mod_eq_of_lt (p.isLt.trans (by decide))]
    · have hbyte : (s.granting p).statusBytes.getD 19 0 = BitVec.ofNat 8 (s.arbiter.postings.length / 1) := rfl
      rw [hbyte, hpostings]
      rfl
  case capture =>
    obtain ⟨kind, slot, syndrome, item⟩ := x
    have hslot : bytesOf 1 slot.val = [BitVec.ofNat 8 slot.val] := by simp [bytesOf]
    rw [captureBytes, hslot]
    cases kind <;> cases item <;> rfl
  case clear =>
    rw [exec_clearCapture]
    exact State.serve_answers hg rfl
  case route =>
    rw [exec_setRoute]
    refine ⟨fun hbad => State.serve_refuses hg (hp ▸ setRouteItem_range p hbad), ?_⟩
    rintro k rfl
    obtain ⟨hcapture, hmulti⟩ := s.router.setRoute_keeps k { s.router.route k with ports := ports }
    refine ⟨_, State.serve_answers hg (hp ▸ setRouteItem_done p k ports), ?_, fun x hx => ?_, hcapture, hmulti, rfl⟩
    · exact (Router.route_setRoute _ k k _).trans (if_pos rfl)
    · exact (Router.route_setRoute _ k x _).trans (if_neg hx.symm)
  case enable =>
    rw [exec_enable hc]
    refine ⟨fun hbad => State.serve_refuses hg (hp ▸ enableItem_range p on hbad), fun hgood =>
      ⟨{ s.granting p with router := s.router.enableKinds kinds on },
        State.serve_answers hg (hp ▸ enableItem_done p on hgood),
        fun k => Router.route_enableKinds _ kinds on k, rfl, rfl, rfl⟩⟩

end Sys2Proof.Machine
end

section
/-! Ends of a stage: from the channel and by expiry (R52, R53, R56, R57, R66), engine-side (R62), and by the postings
applied (R54, R60, R61, R64). -/

namespace Sys2Proof.Machine

/-! ### The channel's own postings (R53, R57) -/

/-- A posting takes its channel to ENDING with its binding, its timers stopped, and leaves the others (R57). -/
theorem State.chan_post (s : State) (c : ChannelId) (b : Binding) (kind : PostingKind) (d : ChannelId) :
    (s.post c b kind).chan d = if c = d then ⟨.ending, some b, none, none⟩ else s.chan d := by
  unfold State.post
  rw [State.chan_congr (State.clearAnalyzer_chans _ _), State.chan_setChan]
  rfl

/-- A posting is made at the queue's tail (R57). -/
theorem State.arbiter_post (s : State) (c : ChannelId) (b : Binding) (kind : PostingKind) :
    (s.post c b kind).arbiter =
      { s.arbiter with postings := s.arbiter.postings ++ [⟨c, b.handle, b.stage, kind⟩] } := by
  unfold State.post
  rw [State.clearAnalyzer_arbiter, State.setChan_arbiter]

/-- A channel's cleared analyzer is at rest (R87, R102, R125, R144). -/
theorem State.rest_clearAnalyzer (s : State) (c : ChannelId) : (s.clearAnalyzer c).analyzerAtRest c := by
  rw [State.atRest_iff, State.work_clearAnalyzer, if_pos rfl]
  exact atRest_clearedWork c

/-- An end from the channel is its END posting and its END directive (R57, R66). -/
theorem State.endStage_eq {s : State} {c : ChannelId} {b : Binding} (hb : (s.chan c).binding = some b) (e : StageEnd) :
    s.endStage c e = (s.post c b (.ended e)).directEnd c b e.code e.cause := by
  unfold State.endStage
  rw [hb]

/-- A directive through the port of the channel's role is handed to that port (R46). -/
theorem State.direct_eq {s : State} {c : ChannelId} {p : PortId} (hp : s.portOf c = some p) (d : Directive)
    (payload : List Byte) : s.direct c d payload = s.hand p ⟨.directive, 0, d.byte, payload⟩ := by
  unfold State.direct
  rw [hp]

/-- To clear an analyzer at rest changes nothing. -/
theorem State.clearAnalyzer_of_atRest {s t : State} {c : ChannelId} (hm : s.monitors = t.monitors)
    (hi : s.input = t.input) (hn : s.noise = t.noise) (hl : s.leaks = t.leaks) (h : t.analyzerAtRest c) :
    s.clearAnalyzer c = s :=
  State.atRest_congr hm hi hn hl c h

/-- A channel at rest that makes a posting keeps its cleared analyzer as it is (R53). -/
theorem State.post_of_atRest {s : State} {c : ChannelId} (h : s.analyzerAtRest c) (b : Binding) (kind : PostingKind) :
    s.post c b kind = ({ s with arbiter := { s.arbiter with
      postings := s.arbiter.postings ++ [⟨c, b.handle, b.stage, kind⟩] } } : State).setChan c
        ⟨.ending, some b, none, none⟩ := by
  unfold State.post
  exact State.clearAnalyzer_of_atRest (t := s) rfl rfl rfl rfl h

/-- The claim start timer of a CLAIMED channel expires into a LAPSE posting (R52, R53). -/
theorem exec_claimStartExpiry {s : State} {c : ChannelId} {b : Binding} {ms : Nat} (hreset : s.resetLow = false)
    (hc : s.chan c = ⟨.claimed, some b, some ms, none⟩) :
    exec (.claimStartExpiry c) s = .next (s.post c b .lapse) := by
  refine congrArg Host.Outcome.next ((State.unlessReset_high hreset _).trans ?_)
  rw [hc]

/-- A claim start timer that does not run does not expire (entry 2). -/
theorem exec_claimStartExpiry_stopped {s : State} {c : ChannelId} (hreset : s.resetLow = false)
    (hc : (s.chan c).claimTimer = none) : exec (.claimStartExpiry c) s = .next s := by
  refine congrArg Host.Outcome.next ((State.unlessReset_high hreset _).trans ?_)
  rw [hc]
  cases (s.chan c).state <;> rfl

/-- Settles O36: the end rule by rule, and the two expiries by their timers. -/
theorem endsAndExpiriesMakeTheirPostings : Obligations.EndsAndExpiriesMakeTheirPostings := by
  refine ⟨fun s c b e hb => ?_, fun s c b ms hreset => ⟨fun hc hrest => ?_, fun hc => ?_, fun hc => ?_, fun hc => ?_⟩⟩
  · dsimp only
    rw [State.endStage_eq hb]
    refine ⟨?arbiter, ?chan, fun d hd => ?others, ?rest, fun p hp => ?ports, ?_, ?_, ?_, ?_⟩
    case arbiter => rw [State.directEnd_arbiter, State.arbiter_post]
    case chan => rw [State.chan_congr (State.directEnd_chans _ _ _ _ _), State.chan_post, if_pos rfl]
    case others => rw [State.chan_congr (State.directEnd_chans _ _ _ _ _), State.chan_post, if_neg hd.symm]
    case rest =>
      exact State.atRest_congr (State.directEnd_monitors _ _ _ _ _) (State.directEnd_input _ _ _ _ _)
        (State.directEnd_noise _ _ _ _ _) (State.directEnd_leaks _ _ _ _ _) c (State.rest_clearAnalyzer _ c)
    case ports =>
      refine (State.ports_direct_congr (State.post_ports s c b _) c .ended _).trans ?_
      rw [State.direct_eq hp]
      rfl
    all_goals simp
  · rw [exec_claimStartExpiry hreset hc, State.post_of_atRest hrest]
  · refine congrArg Host.Outcome.next ((State.unlessReset_high hreset _).trans (if_pos ?_))
    rw [hc]
    exact ⟨rfl, rfl⟩
  · exact exec_claimStartExpiry_stopped hreset hc
  · refine congrArg Host.Outcome.next ((State.unlessReset_high hreset _).trans (if_neg ?_))
    rw [hc]
    simp

/-! ### An engine-side end (R62) -/

/-- An engine-side end deletes its channel's posting and changes nothing else of the arbiter (R62). -/
theorem State.arbiter_engineEnd {s : State} {c : ChannelId} {b : Binding} (hb : (s.chan c).binding = some b)
    (cause : Cause) : (s.engineEnd c cause).arbiter =
      { s.arbiter with postings := s.arbiter.postings.filter fun q => q.channel != c } := by
  unfold State.engineEnd
  rw [hb]
  simp [State.dropPosting]

/-- An engine-side end rests its channel (R62). -/
theorem State.rest_engineEnd {s : State} {c : ChannelId} {b : Binding} (hb : (s.chan c).binding = some b)
    (cause : Cause) : (s.engineEnd c cause).chan c = .rest ∧ (s.engineEnd c cause).analyzerAtRest c := by
  refine ⟨by rw [State.chan_engineEnd, if_pos rfl, hb]; rfl, ?_⟩
  unfold State.engineEnd
  rw [hb]
  dsimp only
  generalize hu : State.restChannel _ c = u
  have hrest : u.analyzerAtRest c := hu ▸ State.rest_restChannel _ c
  exact State.atRest_congr (by simp) (by simp) (by simp) (by simp) c hrest

/-- An engine-side end leaves the other channels (R62). -/
theorem State.chan_engineEnd_of_ne (s : State) {c d : ChannelId} (h : d ≠ c) (cause : Cause) :
    (s.engineEnd c cause).chan d = s.chan d := by
  rw [State.chan_engineEnd, if_neg h.symm]

/-- A damaged file is HOLD (R145). -/
theorem FileRec.judged_of_damaged {f : FileRec} (h : f.records = none) : f.judged = { f with verdict := .hold } := by
  rw [FileRec.judged, FileRec.verdictNow_hold (.inl h)]

/-- A stage of a damaged file is changed nowhere: its records are lost (R5). -/
theorem FileRec.modStage_of_damaged {f : FileRec} (h : f.records = none) (t : Stage) (g : StageRecord → StageRecord) :
    f.modStage t g = f := by
  rw [FileRec.modStage, h, Option.map_none, ← h]

/-- A stage of a sound file is changed in its records. -/
theorem FileRec.modStage_of_records {f : FileRec} {rs : StageRecords} (h : f.records = some rs) (t : Stage)
    (g : StageRecord → StageRecord) : f.modStage t g = { f with records := some (rs.set t (g (rs.get t))) } := by
  rw [FileRec.modStage, h, Option.map_some]

/-- The retry limit of a current handle's stage is its bank's (R32, R45). -/
theorem State.retryLimit_eq {s : State} {h : Handle} {f : FileRec} (hf : s.fileAt h = some f) (t : Stage) :
    s.retryLimit h t = (s.bank f.bank).contents.retryLimit t := by
  rw [State.retryLimit, hf]

/-- Settles O39: the file by the stage record's end, the channel at rest, the directive at the channel's port. -/
theorem anEngineSideEndFreesTheChannel : Obligations.AnEngineSideEndFreesTheChannel := by
  intro s c b cause f hb hf t
  obtain ⟨hgen, hfile⟩ := State.fileAt_eq.mp hf
  have hcurrent : s.handleOf b.handle.slot = b.handle := by rw [State.handleOf, hgen]
  have hended : t.file b.handle.slot = some (f.modStage b.stage fun r =>
      r.applyEnd ((s.bank f.bank).contents.retryLimit b.stage) ⟨.cutShort, cause, none⟩).judged := by
    rw [State.file_engineEnd s c cause hb hcurrent, if_pos rfl, hfile, State.retryLimit_eq hf]
    rfl
  obtain ⟨hchan, hrest⟩ := State.rest_engineEnd hb cause
  refine ⟨State.arbiter_engineEnd hb cause, hchan, fun d hd => State.chan_engineEnd_of_ne s hd cause, hrest,
    fun rs hrs => ⟨_, hended, rfl, rfl, ?records⟩, fun hlost => ?lost, fun j hj => State.slot_engineEnd s c cause b hb j hj,
    fun p hp => ?tx, State.engineEnd_store _ _ _, State.engineEnd_router _ _ _, State.engineEnd_audio _ _ _⟩
  case records =>
    rw [FileRec.modStage_of_records hrs]
    rfl
  case lost => rw [hended, FileRec.modStage_of_damaged hlost, FileRec.judged_of_damaged hlost]
  case tx =>
    have htx := State.tx_engineEnd hb hp cause
    simpa [bytesOf] using htx

/-! ### Postings applied (R54, R60, R61, R64) -/

/-- The oldest posting is granted (R167). -/
theorem State.grant_of_posting {s : State} {q : Posting} {rest : List Posting} (h : s.arbiter.postings = q :: rest) :
    s.grant = some (.posting q) := by
  unfold State.grant
  rw [h]

/-- A granted END posting is applied (R60, R167). -/
theorem exec_endPostingApplied {s : State} {q : Posting} {rest : List Posting} {e : StageEnd}
    (hreset : s.resetLow = false) (hq : s.arbiter.postings = q :: rest) (hkind : q.kind = .ended e) (ds : Disturbances) :
    exec (.endPostingApplied ds) s = .next ((s.disturb ds).applyPosting .endPosting q fun s => s.applyEnd q e) := by
  refine congrArg Host.Outcome.next ((State.unlessReset_high hreset _).trans ?_)
  rw [State.grant_of_posting hq]
  dsimp only
  rw [hkind]

/-- A granted LAPSE posting is applied (R54, R167). -/
theorem exec_lapsePostingApplied {s : State} {q : Posting} {rest : List Posting}
    (hreset : s.resetLow = false) (hq : s.arbiter.postings = q :: rest) (hkind : q.kind = .lapse) (ds : Disturbances) :
    exec (.lapsePostingApplied ds) s = .next ((s.disturb ds).applyPosting .lapsePosting q fun s => s.applyLapse q) := by
  refine congrArg Host.Outcome.next ((State.unlessReset_high hreset _).trans ?_)
  rw [State.grant_of_posting hq]
  dsimp only
  rw [hkind]

/-- The granted posting leaves the queue (R167). -/
theorem State.popPosting_eq {s : State} {q : Posting} {rest : List Posting} (h : s.arbiter.postings = q :: rest) :
    s.popPosting = { s with arbiter := { s.arbiter with postings := rest } } := by
  rw [State.popPosting, h, List.tail_cons]

section
variable {s : State} {q : Posting} (item : CaptureItem) (effect : State → State)

/-- A posting with a stale handle touches no file and frees its channel (R61). -/
theorem State.applyPosting_stale (hstale : s.fileAt q.handle = none)
    (hc : s.chan q.channel = ⟨.ending, some ⟨q.handle, q.stage⟩, none, none⟩) :
    s.applyPosting item q effect = s.popPosting.restChannel q.channel := by
  have hstale' : s.popPosting.fileAt q.handle = none := hstale
  unfold State.applyPosting
  dsimp only
  rw [hstale']
  have hpop : s.popPosting.chan q.channel = ⟨.ending, some ⟨q.handle, q.stage⟩, none, none⟩ := hc
  refine if_pos ?_
  rw [hpop]
  exact ⟨rfl, rfl⟩

/-- A posting with a current handle has its file read, then its own effect unless the read has ended its channel
(R60, R64). -/
theorem State.applyPosting_current (hcurrent : (s.fileAt q.handle).isSome = true) :
    s.applyPosting item q effect =
      if ((s.popPosting.readFile item q.handle.slot).chan q.channel).state = .ending then
        effect (s.popPosting.readFile item q.handle.slot)
      else s.popPosting.readFile item q.handle.slot := by
  obtain ⟨f, hf⟩ : ∃ f, s.popPosting.fileAt q.handle = some f := Option.isSome_iff_exists.mp hcurrent
  unfold State.applyPosting
  dsimp only
  rw [hf]

end

/-- A stage of a current handle's sound file is changed in its file. -/
theorem State.modStage_of_records {s : State} {h : Handle} {f : FileRec} {rs : StageRecords} (hf : s.fileAt h = some f)
    (hrs : f.records = some rs) (t : Stage) (g : StageRecord → StageRecord) :
    s.modStage h t g = s.setFile h.slot { f with records := some (rs.set t (g (rs.get t))) } := by
  unfold State.modStage
  rw [hf]
  dsimp only
  rw [FileRec.modStage_of_records hrs]

/-- The handle of a posting stays current through the read of its file. -/
theorem State.fileAt_readFile {s : State} {item : CaptureItem} {h : Handle} {f : FileRec}
    (hcurrent : (s.fileAt h).isSome = true) (hf : (s.readFile item h.slot).file h.slot = some f) :
    (s.readFile item h.slot).fileAt h = some f := by
  obtain ⟨g, hg⟩ := Option.isSome_iff_exists.mp hcurrent
  obtain ⟨hgen, -⟩ := State.fileAt_eq.mp hg
  exact State.fileAt_eq.mpr ⟨(State.gen_readFile _ _ _ _).trans hgen, hf⟩

/-- The effect of an END posting on a sound file (R60). -/
theorem State.applyEnd_eq {s : State} {q : Posting} {f : FileRec} {rs : StageRecords} (hf : s.fileAt q.handle = some f)
    (hrs : f.records = some rs) (e : StageEnd) :
    s.applyEnd q e = ((s.setFile q.handle.slot { f with
      records := some (rs.set q.stage
        ((rs.get q.stage).applyEnd ((s.bank f.bank).contents.retryLimit q.stage) e)) }).restChannel q.channel).recompute
          q.handle.slot := by
  unfold State.applyEnd
  dsimp only
  rw [State.modStage_of_records hf hrs, State.retryLimit_eq hf]

/-- The effect of a LAPSE posting on a sound file (R54). -/
theorem State.applyLapse_eq {s : State} {q : Posting} {f : FileRec} {rs : StageRecords} (hf : s.fileAt q.handle = some f)
    (hrs : f.records = some rs) :
    s.applyLapse q = (((s.setFile q.handle.slot { f with
      records := some (rs.set q.stage (rs.get q.stage).lapse) }).restChannel q.channel).recompute q.handle.slot).raise
        .lapse f.serial q.stage.byte := by
  unfold State.applyLapse
  dsimp only
  rw [State.modStage_of_records hf hrs, State.noticeLapse, State.file_recompute_judged, if_pos rfl, State.file_restChannel,
    State.file_setFile, if_pos rfl]
  rfl

/-- Settles O38: each posting by its handle, by the read of its file, and by its own effect. -/
theorem postingsAreAppliedToTheirStages : Obligations.PostingsAreAppliedToTheirStages := by
  refine ⟨fun s₀ ds q rest e hreset hq hkind hc => ?_, fun s₀ ds q rest hreset hq hkind hc => ?_⟩
  · rw [exec_endPostingApplied (s := s₀) hreset hq hkind]
    dsimp only
    rw [← State.popPosting_eq hq]
    refine ⟨fun hstale => ?_, fun hcurrent => ⟨fun hended => ?_, fun f rs hending hf hrs => ?_⟩⟩
    · rw [State.applyPosting_stale _ _ hstale hc]
    · rw [State.applyPosting_current _ _ hcurrent, if_neg hended]
    · rw [State.applyPosting_current _ _ hcurrent, if_pos hending,
        State.applyEnd_eq (State.fileAt_readFile (s := (s₀.disturb ds).popPosting) hcurrent hf) hrs]
      obtain ⟨code, cause, summary⟩ := e
      cases code <;> rfl
  · rw [exec_lapsePostingApplied (s := s₀) hreset hq hkind]
    dsimp only
    rw [← State.popPosting_eq hq]
    refine ⟨fun hstale => ?_, fun hcurrent => ⟨fun hended => ?_, fun f rs hending hf hrs => ?_⟩⟩
    · rw [State.applyPosting_stale _ _ hstale hc]
    · rw [State.applyPosting_current _ _ hcurrent, if_neg hended]
    · rw [State.applyPosting_current _ _ hcurrent, if_pos hending,
        State.applyLapse_eq (State.fileAt_readFile (s := (s₀.disturb ds).popPosting) hcurrent hf) hrs]
      rfl

end Sys2Proof.Machine
end

section
/-! The read of a file's record: the errors it finds, the capture record, and the file it damages (R14, R64, R178 to
R183). -/

namespace Sys2Proof.Machine

/-! ### What an error is captured as (R181) -/

/-- A word with more than one wrong bit makes the errors uncorrectable (R181). -/
theorem errorKind_uncorrectable {errs : RecordErrors} (h : ∃ e ∈ errs, e.multiple = true) :
    errorKind errs = .uncorrectable := by
  unfold errorKind
  rw [if_pos (List.any_eq_true.mpr h)]

/-- The syndrome is that of the first word of the kind recorded (R181). -/
theorem errorSyndrome_eq {errs before after : RecordErrors} {e : WordError} (herrs : errs = before ++ e :: after)
    (hbefore : ∀ x ∈ before, x.multiple ≠ e.multiple)
    (hkind : errorKind errs = if e.multiple then .uncorrectable else .correctable) :
    errorSyndrome errs = e.syndrome := by
  have hmultiple : (errorKind errs == .uncorrectable) = e.multiple := by
    rw [hkind]
    cases e.multiple <;> rfl
  have hfirst : errs.find? (fun x => x.multiple == (errorKind errs == .uncorrectable)) = some e := by
    rw [hmultiple, List.find?_eq_some_iff_append]
    exact ⟨beq_self_eq_true _, before, after, herrs, fun x hx => by simpa using hbefore x hx⟩
  rw [errorSyndrome, hfirst]

/-- The capture record where an error has been captured. -/
theorem State.capture_captureError {s : State} {i : SlotId} {item : CaptureItem} {errs before after : RecordErrors}
    {e : WordError} (herrs : errs = before ++ e :: after) (hbefore : ∀ x ∈ before, x.multiple ≠ e.multiple)
    (hkind : errorKind errs = if e.multiple then .uncorrectable else .correctable) :
    (s.captureError i item errs).router = { s.router with capture := some (s.router.capture.getD
      ⟨if e.multiple then .uncorrectable else .correctable, i, e.syndrome, item⟩) } := by
  rw [State.router_captureError, errorSyndrome_eq herrs hbefore hkind, hkind]

/-- The name of a slot in a FAULT notice (R186). -/
def faultName (i : SlotId) : List Byte := BitVec.ofNat 8 i.val :: List.replicate 11 0

/-- A FAULT notice is raised where the capture record was unlocked or the multi-notice switch is on (R183). -/
theorem State.ports_captureError_raised {s : State} (i : SlotId) (item : CaptureItem) (errs : RecordErrors)
    (h : s.router.multi = true ∨ s.router.capture = none) :
    (s.captureError i item errs).ports = (s.raise .fault (faultName i) (errorKind errs).byte).ports := by
  have hname : bytesOf 1 i.val ++ bytesOf 11 0 = faultName i := by simp [bytesOf, faultName]
  rw [State.ports_captureError, hname, if_pos (by simpa using h)]

/-- No FAULT notice is raised otherwise (R183). -/
theorem State.ports_captureError_quiet {s : State} (i : SlotId) (item : CaptureItem) (errs : RecordErrors)
    (h : ¬(s.router.multi = true ∨ s.router.capture = none)) : (s.captureError i item errs).ports = s.ports := by
  rw [State.ports_captureError, if_neg (by simpa using h)]

/-- A captured error keeps the routing rows (R181). -/
theorem State.route_captureError (s : State) (i : SlotId) (item : CaptureItem) (errs : RecordErrors) (k : NoticeKind) :
    (s.captureError i item errs).router.route k = s.router.route k := by
  rw [State.router_captureError]
  cases k <;> rfl

/-! ### A file damaged (R64, R180) -/

/-- The state a file's damage begins with: its records and what stood in error in them lost (R180). -/
def State.lost (s : State) (i : SlotId) (f : FileRec) : State := (s.setErrors i []).setFile i { f with records := none }

/-- Damage ends the channel bound for the lost file, then judges the file (R64, R180). -/
theorem State.damage_lost (s : State) (i : SlotId) (f : FileRec) :
    s.damage i f = ((s.lost i f).freed i .damaged).recompute i :=
  s.damage_eq i f

section
variable (s : State) (i : SlotId) (f : FileRec)

/-- The lost file in its slot. -/
theorem State.slot_lost (j : SlotId) :
    (s.lost i f).slot j = if i = j then ⟨(s.slot i).gen, some { f with records := none }, []⟩ else s.slot j := by
  unfold State.lost State.setFile
  rw [State.slot_setSlot]
  split
  · rw [State.slot_setErrors, if_pos rfl]
  · next h => rw [State.slot_setErrors, if_neg h]

/-- The loss of a file's records keeps the handles. -/
theorem State.handleOf_lost (j : SlotId) : (s.lost i f).handleOf j = s.handleOf j := by
  unfold State.handleOf
  rw [State.slot_lost]
  split
  · next h => subst h; rfl
  · rfl

/-- The channel bound for the lost file is the one bound before. -/
theorem State.boundTo_lost : (s.lost i f).boundTo ((s.lost i f).handleOf i) = s.boundTo (s.handleOf i) := by
  rw [State.handleOf_lost]
  exact State.boundTo_congr rfl _

end

/-- The end of the stage a file's channel is bound for leaves the other slots. -/
theorem State.slot_freed_of_ne (s : State) {i j : SlotId} (cause : Cause) (h : i ≠ j) :
    (s.freed i cause).slot j = s.slot j := by
  cases hc : s.boundTo (s.handleOf i) with
  | none => rw [State.freed_none hc]
  | some c =>
    obtain ⟨b, hb, hhandle⟩ := State.boundTo_some hc
    rw [State.freed_some hc]
    exact State.slot_engineEnd s c cause b hb j (by rw [hhandle]; exact h.symm)

/-- Damage leaves the other slots (R180). -/
theorem State.slot_damage_of_ne (s : State) {i j : SlotId} (f : FileRec) (h : i ≠ j) :
    (s.damage i f).slot j = s.slot j := by
  rw [State.damage_lost, State.slot_recompute _ _ _ h.symm, State.slot_freed_of_ne _ _ h, State.slot_lost, if_neg h]

/-- An engine-side end keeps the words that stand in error (R62). -/
theorem State.errors_engineEnd (s : State) (c : ChannelId) (cause : Cause) (j : SlotId) :
    ((s.engineEnd c cause).slot j).errors = (s.slot j).errors := by
  unfold State.engineEnd
  split
  · rw [State.errors_recompute, State.slot_directEnd, State.slot_restChannel, State.errors_modStage,
      State.slot_dropPosting]
  · rfl

/-- The end of the stage a file's channel is bound for keeps the words that stand in error. -/
theorem State.errors_freed (s : State) (i : SlotId) (cause : Cause) (j : SlotId) :
    ((s.freed i cause).slot j).errors = (s.slot j).errors := by
  unfold State.freed
  split
  · exact State.errors_engineEnd _ _ _ _
  · rfl

/-- A damaged file in its slot: its stage records lost with what of them stood in error, HOLD (R180). -/
theorem State.slot_damage (s : State) (i : SlotId) (f : FileRec) :
    (s.damage i f).slot i = ⟨(s.slot i).gen, some { f with records := none, verdict := .hold }, []⟩ := by
  have hgen := s.gen_damage i f i
  have hfile : ((s.damage i f).slot i).file = _ := (s.file_damage i f i).trans (if_pos rfl)
  have herrors : ((s.damage i f).slot i).errors = [] := by
    rw [State.damage_lost, State.errors_recompute, State.errors_freed, State.slot_lost, if_pos rfl]
  rw [← hgen, ← hfile, ← herrors]

/-- To recompute a verdict twice changes nothing more (R6). -/
theorem State.recompute_recompute (s : State) (i : SlotId) : (s.recompute i).recompute i = s.recompute i := by
  have hfile := s.file_recompute_judged i i
  rw [if_pos rfl] at hfile
  cases hf : s.file i with
  | none =>
    rw [hf] at hfile
    rw [State.recompute, hfile]
    rfl
  | some f =>
    rw [hf] at hfile
    rw [State.recompute, hfile]
    exact if_pos rfl

/-- The frames the recomputation of a damaged file hands: a VERDICT notice where its verdict was not HOLD (R6, R145). -/
theorem State.ports_recompute_lost {s : State} {i : SlotId} {f : FileRec}
    (hf : s.file i = some { f with records := none }) {x : State} (hports : s.ports = x.ports)
    (hroute : ∀ k, s.router.route k = x.router.route k) :
    (s.recompute i).ports = (if f.verdict = .hold then x else x.raise .verdict f.serial 4).ports := by
  have hverdict : ({ f with records := none } : FileRec).verdictNow = .hold := FileRec.verdictNow_hold (.inl rfl)
  rw [State.ports_recompute s i _ hf, hverdict]
  by_cases h : f.verdict = .hold
  · rw [if_pos h.symm, if_pos h, hports]
  · rw [if_neg (fun h' => h h'.symm), if_neg h]
    exact State.ports_raise_congr hports hroute _ _ _

section
variable {s : State} {i : SlotId} (f : FileRec)

/-- Damage of a file whose channel is bound ends that channel (R64, R180). -/
theorem State.damage_bound {c : ChannelId} (hc : s.boundTo (s.handleOf i) = some c) :
    s.damage i f = ((s.lost i f).engineEnd c .damaged).recompute i := by
  rw [State.damage_lost, State.freed_some ((s.boundTo_lost i f).trans hc)]

/-- Damage of a file with no channel bound judges it alone (R180). -/
theorem State.damage_unbound (hc : s.boundTo (s.handleOf i) = none) : s.damage i f = (s.lost i f).recompute i := by
  rw [State.damage_lost, State.freed_none ((s.boundTo_lost i f).trans hc)]

/-- The frames of a damage that ends a channel: the END directive, then the VERDICT notice (R64, R183). -/
theorem State.ports_damage_bound {c : ChannelId} {b : Binding} (hc : s.boundTo (s.handleOf i) = some c)
    (hb : (s.chan c).binding = some b) {x : State} (hports : s.ports = x.ports)
    (hroute : ∀ k, s.router.route k = x.router.route k) :
    (s.damage i f).ports = (if f.verdict = .hold then x.direct c .ended (b.handle.bytes ++ [b.stage.byte, 3, 20])
      else (x.direct c .ended (b.handle.bytes ++ [b.stage.byte, 3, 20])).raise .verdict f.serial 4).ports := by
  have hhandle : b.handle = s.handleOf i := by
    obtain ⟨b', hb', hhandle⟩ := State.boundTo_some hc
    rw [hb] at hb'
    rw [Option.some.inj hb', hhandle]
  have hslot : b.handle.slot = i := congrArg Handle.slot hhandle
  have hlost : (s.lost i f).fileAt b.handle = some { f with records := none } := by
    refine State.fileAt_eq.mpr ⟨?_, ?_⟩
    · rw [hhandle]; exact congrArg Handle.gen (s.handleOf_lost i f i)
    · rw [hhandle]; exact congrArg Slot.file ((s.slot_lost i f i).trans (if_pos rfl))
  rw [State.damage_bound f hc]
  have hbound : ((s.lost i f).chan c).binding = some b := hb
  unfold State.engineEnd
  rw [hbound]
  dsimp only
  rw [hslot, State.recompute_recompute]
  generalize hu : State.restChannel _ c = u
  have huports : u.ports = x.ports := by rw [← hu, ← hports]; simp [State.dropPosting, State.lost]
  have hurouter : u.router = s.router := by rw [← hu]; simp [State.dropPosting, State.lost]
  have hufile : u.file i = some { f with records := none } := by
    have hdrop : ((s.lost i f).dropPosting c).fileAt b.handle = some { f with records := none } := hlost
    rw [← hu, State.file_restChannel, State.modStage, hdrop]
    dsimp only
    rw [FileRec.modStage_of_damaged rfl, State.file_setFile, if_pos hslot]
  refine State.ports_recompute_lost (by rw [State.file_directEnd, hufile]) ?_ fun k => ?_
  · refine (State.ports_direct_congr huports c .ended _).trans ?_
    simp [bytesOf, EndCode.num, Cause.num]
  · have hxrouter : (x.direct c .ended (b.handle.bytes ++ [b.stage.byte, 3, 20])).router = x.router := by simp
    rw [State.directEnd_router, hurouter, hroute, hxrouter]

end

/-! ### The read (R14, R178 to R183) -/

/-- Settles O40: a word gone wrong, then the read by its errors' kind. -/
theorem aReadFindsErrorsAndCapturesTheFirst : Obligations.AReadFindsErrorsAndCapturesTheFirst := by
  refine ⟨fun s i e => ⟨fun x => ?_, by simp, by simp, fun j hj => ?_, rfl⟩, fun s item i f hf => ?_⟩
  · rw [State.slot_disturb]
    simp [errorsIn, Slot.disturb, mem_insertError]
  · rw [State.slot_disturb]
    simp [errorsIn, hj.symm, Slot.disturb_nil]
  obtain ⟨hquiet, hcorrected, hdamaged⟩ := s.readFile_cases item i hf
  refine ⟨hquiet, fun hsound e before after herrs hbefore => ⟨fun hsingle hall => ?_, fun hmultiple => ?_⟩⟩
  · have hkind : errorKind (s.slot i).errors = .correctable := errorKind_correctable hall
    have hread := hcorrected hsound (by rw [herrs]; simp) hall
    dsimp only
    rw [hread]
    refine ⟨?slot, fun j hj => ?slots, ?_, ?_, ?_, ?_, ?_, ?_, ?_, ?_, ?_, ?_, ?_, ?_, ?router, fun h => ?raised,
      fun h => ?quiet⟩
    case slot => rw [State.slot_setErrors, if_pos rfl, State.slot_captureError]; rfl
    case slots => rw [State.slot_setErrors, if_neg hj.symm, State.slot_captureError]
    case router =>
      rw [State.setErrors_router, State.capture_captureError herrs hbefore (by rw [hkind, hsingle]; rfl)]
    case raised =>
      rw [State.setErrors_ports, State.ports_captureError_raised i item _ h, hkind]
      rfl
    case quiet => rw [State.setErrors_ports, State.ports_captureError_quiet i item _ h]
    all_goals simp
  · have hex : ∃ x ∈ (s.slot i).errors, x.multiple = true := ⟨e, by rw [herrs]; simp, hmultiple⟩
    have hkind : errorKind (s.slot i).errors = .uncorrectable := errorKind_uncorrectable hex
    have hread := hdamaged hsound hex
    dsimp only
    rw [hread]
    have hrouter := State.capture_captureError (s := s) (i := i) (item := item) herrs hbefore
      (by rw [hkind, hmultiple]; rfl)
    have hraised := State.ports_captureError_raised (s := s) i item (s.slot i).errors
    rw [hkind] at hraised
    have hcalm := State.ports_captureError_quiet (s := s) i item (s.slot i).errors
    have hroute := State.route_captureError s i item (s.slot i).errors
    have hslot := State.slot_captureError s i item (s.slot i).errors
    have harbiter := State.captureError_arbiter s i item (s.slot i).errors
    have hchans := State.captureError_chans s i item (s.slot i).errors
    have hstore := State.captureError_store s i item (s.slot i).errors
    have haudio := State.captureError_audio s i item (s.slot i).errors
    generalize s.captureError i item (s.slot i).errors = u at *
    have hhandle : u.handleOf i = s.handleOf i := by rw [State.handleOf, hslot]; rfl
    have hboundTo : u.boundTo (u.handleOf i) = s.boundTo (s.handleOf i) := by
      rw [hhandle]; exact State.boundTo_congr hchans _
    have hx : ∀ x : State, ((s.router.multi = true ∨ s.router.capture = none) → x = s.raise .fault (faultName i) 2) →
        (¬(s.router.multi = true ∨ s.router.capture = none) → x = s) →
        u.ports = x.ports ∧ ∀ k, u.router.route k = x.router.route k := by
      intro x hx hx'
      by_cases h : s.router.multi = true ∨ s.router.capture = none
      · rw [hx h]
        exact ⟨hraised h, fun k => (hroute k).trans (by rw [State.raise_router])⟩
      · rw [hx' h]
        exact ⟨hcalm h, hroute⟩
    refine ⟨⟨{ f with records := none, verdict := .hold }, (u.slot_damage i f).trans (by rw [hslot]), rfl, rfl,
      rfl, rfl, rfl, rfl, rfl⟩, fun j hj => ?slots, fun c hc => ?bound, fun hc => ?unbound, fun x hx₁ hx₂ => ⟨fun c b hc hb => ?told, fun hc => ?untold⟩, ?_, ?_, ?_⟩
    case slots => rw [State.slot_damage_of_ne _ _ hj.symm, hslot]
    case bound =>
      obtain ⟨b, hb, -⟩ := State.boundTo_some hc
      have hub : ((u.lost i f).chan c).binding = some b := by rw [← hb]; exact congrArg _ (State.chan_congr hchans c)
      obtain ⟨hrest, hatRest⟩ := State.rest_engineEnd hub .damaged
      rw [State.damage_bound f (hboundTo.trans hc)]
      refine ⟨?_, fun d hd => ?_, ?_, ?_⟩
      · rw [State.chan_congr (State.recompute_chans _ _), hrest]
      · rw [State.chan_congr (State.recompute_chans _ _), State.chan_engineEnd_of_ne _ hd]
        exact State.chan_congr hchans d
      · exact State.atRest_congr (by simp) (by simp) (by simp) (by simp) c hatRest
      · rw [State.recompute_arbiter, State.arbiter_engineEnd hub, ← harbiter]
        rfl
    case unbound =>
      rw [State.damage_unbound f (hboundTo.trans hc), State.recompute_chans, State.recompute_arbiter]
      exact ⟨hchans, harbiter⟩
    case told =>
      obtain ⟨hports, hroute'⟩ := hx x hx₁ hx₂
      exact State.ports_damage_bound f (hboundTo.trans hc) ((congrArg _ (State.chan_congr hchans c)).trans hb) hports hroute'
    case untold =>
      obtain ⟨hports, hroute'⟩ := hx x hx₁ hx₂
      rw [State.damage_unbound f (hboundTo.trans hc)]
      exact State.ports_recompute_lost (congrArg Slot.file ((u.slot_lost i f i).trans (if_pos rfl))) hports hroute'
    · rw [State.damage_router, hrouter, hmultiple]
    · rw [State.damage_store, hstore]
    · rw [State.damage_audio, haudio]

end Sys2Proof.Machine
end

section
/-! CLAIM (R49, R50), START (R2, R55, R72, R106, R129), ABANDON and RESULT (R59, R67). -/

namespace Sys2Proof.Machine

/-! ### CLAIM (R49, R50) -/

/-- CLAIM is served by its item. -/
theorem exec_claim (ds : Disturbances) (s : State) :
    exec (.claim ds) s = .next (s.serveReading .claim ds claimItem) := rfl

section
variable {s : State} {serial : Serial} {t : Stage} (p : PortId) (hs : serial.length = 12)
include hs

/-- CLAIM refuses a byte that names no stage (R49). -/
theorem claimItem_range {b : Byte} (h : ∀ t : Stage, t.byte ≠ b) : claimItem p (serial ++ [b]) s = s.reply .range := by
  rw [claimItem, getD_append_singleton hs, Stage.ofByte_of_forall_ne h]

/-- CLAIM refuses a port whose role drives no channel of the stage type (R49). -/
theorem claimItem_role (h : ∀ c : ChannelId, (s.port p).role = c.role → c.stage ≠ t) :
    claimItem p (serial ++ [t.byte]) s = s.reply .role := by
  rw [claimItem, getD_append_singleton hs, Stage.ofByte_byte]
  dsimp only
  cases hc : (s.port p).role.channel with
  | none => rfl
  | some c => exact if_pos (h c ((Role.channel_eq_some _ _).mp hc))

/-- CLAIM at a port whose role drives a channel of the stage type goes on by the serial (R49). -/
theorem claimItem_channel {c : ChannelId} (hrole : (s.port p).role = c.role) (hstage : c.stage = t) :
    claimItem p (serial ++ [t.byte]) s = s.onSerial .claim serial (claimStage t c) := by
  rw [claimItem, getD_append_singleton hs, Stage.ofByte_byte]
  dsimp only
  rw [(Role.channel_eq_some _ _).mpr hrole, serialOf_append hs]
  exact if_neg (not_not.mpr hstage)

end

/-- Another stage of the file is CLAIMED or RUNNING (R49). -/
theorem StageRecords.otherActive_iff (rs : StageRecords) (t : Stage) :
    rs.otherActive t = true ↔ ∃ u : Stage, u ≠ t ∧ (rs.get u).state.active = true := by
  simp only [StageRecords.otherActive, List.any_eq_true, Bool.and_eq_true, bne_iff_ne]
  exact ⟨fun ⟨u, _, h⟩ => ⟨u, h⟩, fun ⟨u, h⟩ => ⟨u, mem_allStages u, h⟩⟩

section
variable {t : Stage} {c : ChannelId} {i : SlotId} {f : FileRec} {rs : StageRecords} {s : State}

/-- CLAIM refuses a damaged file (R49). -/
theorem claimStage_damaged (h : f.records = none) : claimStage t c i f s = s.reply .damaged := by
  rw [claimStage, h]

variable (hrs : f.records = some rs)
include hrs

/-- CLAIM refuses a file on hold (R49). -/
theorem claimStage_held (h : f.holds ≠ []) : claimStage t c i f s = s.reply .held := by
  rw [claimStage, hrs]
  exact if_pos (by simpa using h)

variable (hholds : f.holds = [])
include hholds

/-- CLAIM of a file not damaged and not on hold goes on by its stages and the channel (R49). -/
theorem claimStage_free : claimStage t c i f s =
    if (rs.get t).state ≠ .opened then s.reply .state
    else if rs.otherActive t then s.reply .active
    else if t = .noise ∧ !rs.runin.state.settled then s.reply .order
    else if (s.chan c).state ≠ .idle then s.reply .channel
    else ⟨(s.bindChannel i f t c).recompute i, .done,
      (s.handleOf i).bytes ++ (s.bank f.bank).contents.setpoints t⟩ := by
  rw [claimStage, hrs]
  exact if_neg (by simp [hholds])

/-- CLAIM refuses a stage that is not OPEN (R49). -/
theorem claimStage_state (h : (rs.get t).state ≠ .opened) : claimStage t c i f s = s.reply .state := by
  rw [claimStage_free hrs hholds, if_pos h]

variable (hopen : (rs.get t).state = .opened)
include hopen

/-- CLAIM refuses a file of which another stage is active (R49). -/
theorem claimStage_active (h : ∃ u : Stage, u ≠ t ∧ (rs.get u).state.active = true) :
    claimStage t c i f s = s.reply .active := by
  rw [claimStage_free hrs hholds, if_neg (not_not.mpr hopen), if_pos ((rs.otherActive_iff t).mpr h)]

variable (hnone : ∀ u : Stage, u ≠ t → (rs.get u).state.active = false)
include hnone

/-- CLAIM of an OPEN stage of a file of which none is active goes on by the order of the stages and the channel
(R49). -/
theorem claimStage_open : claimStage t c i f s =
    if t = .noise ∧ !rs.runin.state.settled then s.reply .order
    else if (s.chan c).state ≠ .idle then s.reply .channel
    else ⟨(s.bindChannel i f t c).recompute i, .done,
      (s.handleOf i).bytes ++ (s.bank f.bank).contents.setpoints t⟩ := by
  rw [claimStage_free hrs hholds, if_neg (not_not.mpr hopen), if_neg]
  rw [rs.otherActive_iff]
  rintro ⟨u, hu, hactive⟩
  rw [hnone u hu] at hactive
  cases hactive

/-- CLAIM refuses NOISE before RUNIN has passed or been waived (R49). -/
theorem claimStage_order (ht : t = .noise) (hpassed : rs.runin.state ≠ .passed) (hwaived : rs.runin.state ≠ .waived) :
    claimStage t c i f s = s.reply .order := by
  have hsettled : rs.runin.state.settled = false := Bool.eq_false_iff.mpr fun h =>
    ((StageState.settled_iff _).mp h).elim hpassed hwaived
  rw [claimStage_open hrs hholds hopen hnone, if_pos ⟨ht, by rw [hsettled]; rfl⟩]

variable (hruns : t = .noise → rs.runin.state = .passed ∨ rs.runin.state = .waived)
include hruns

/-- CLAIM of a stage that may be claimed goes on by the channel (R49). -/
theorem claimStage_ordered : claimStage t c i f s =
    if (s.chan c).state ≠ .idle then s.reply .channel
    else ⟨(s.bindChannel i f t c).recompute i, .done,
      (s.handleOf i).bytes ++ (s.bank f.bank).contents.setpoints t⟩ := by
  rw [claimStage_open hrs hholds hopen hnone, if_neg]
  rintro ⟨ht, hsettled⟩
  rw [(StageState.settled_iff _).mpr (hruns ht)] at hsettled
  cases hsettled

end

/-- Settles O34: the checks in order. -/
theorem claimIsRefusedByTheFirstFailingCheck : Obligations.ClaimIsRefusedByTheFirstFailingCheck := by
  intro s₀ p h ds serial b s hg hs hp
  rw [exec_claim]
  refine ⟨fun hno => State.serveReading_refuses hg (hp ▸ claimItem_range p hs hno), ?_⟩
  rintro t rfl
  refine ⟨fun hno => State.serveReading_refuses hg (hp ▸ claimItem_role p hs (s := s.granting p) hno),
    fun c hrole hstage => ?_⟩
  have hitem := claimItem_channel p hs (s := s.granting p) hrole hstage
  refine ⟨fun hnone => State.serveReading_refuses hg (hp ▸ hitem.trans (State.onSerial_unknown (s := s.granting p) hnone _ _)),
    fun i f hi hf => ?_⟩
  replace hitem := hitem.trans (State.onSerial_found (s := s.granting p) hi hf _)
  refine ⟨fun hlost => ?_, fun rs hrs => ⟨fun hheld => ?_, fun hholds hstate => ?_, fun hholds hopen =>
    ⟨fun hactive => ?_, fun hnone => ⟨fun ht hpassed hwaived => ?_, fun hruns hbusy => ?_⟩⟩⟩⟩ <;>
    refine State.serveReading_answers hg (hp ▸ hitem.trans ?_)
  · exact claimStage_damaged hlost
  · exact claimStage_held hrs hheld
  · exact claimStage_state hrs hholds hstate
  · exact claimStage_active hrs hholds hopen hactive
  · exact claimStage_order hrs hholds hopen hnone ht hpassed hwaived
  · exact (claimStage_ordered hrs hholds hopen hnone hruns).trans (if_pos hbusy)

/-- The stage record is CLAIMED for the channel, and the channel bound (R50). -/
theorem State.bindChannel_eq {s : State} {f : FileRec} {rs : StageRecords} (hrs : f.records = some rs) (i : SlotId)
    (t : Stage) (c : ChannelId) : s.bindChannel i f t c =
      (s.setFile i { f with records := some (rs.set t { rs.get t with state := .claimed, channel := some c }) }).setChan c
        ⟨.claimed, some ⟨s.handleOf i, t⟩, claimLimitMs (s.bank f.bank).contents.claimCode, none⟩ := by
  rw [State.bindChannel, FileRec.modStage_of_records hrs]

/-- Settles O33: every check passed, the stage is bound. -/
theorem claimReservesTheStageForTheChannel : Obligations.ClaimReservesTheStageForTheChannel := by
  intro s₀ p h ds serial t c i f rs s hg hs hp hrole hstage hi r hf hrs hholds hopen hnone hruns hidle
  rw [exec_claim]
  have hitem := (claimItem_channel p hs (s := s.granting p) hrole hstage).trans
    (State.onSerial_found (s := s.granting p) hi hf _)
  refine State.serveReading_answers hg (hp ▸ hitem.trans ?_)
  rw [claimStage_ordered hrs hholds hopen hnone hruns, if_neg (not_not.mpr hidle), State.bindChannel_eq hrs]
  cases t <;> rfl

end Sys2Proof.Machine
end

section
/-! START (R2, R55, R72, R106, R129), ABANDON and RESULT (R59, R67). -/

namespace Sys2Proof.Machine

/-! ### Requests by a handle's two bytes (R2, R14) -/

section
variable {s : State} {r : Request} {a g : Byte} {rest : List Byte} (go : Handle → State → Reply)

/-- A slot above 47 is answered RANGE (R2). -/
theorem State.onHandle_range (h : 47 < a.toNat) : s.onHandle r (a :: g :: rest) go = s.reply .range := by
  rw [State.onHandle_eq, dif_neg (by omega)]

variable {i : SlotId} (hi : a.toNat = i.val)
include hi

/-- A handle that is not current is answered STALE (R2). -/
theorem State.onHandle_stale (h : s.fileAt ⟨i, g⟩ = none) : s.onHandle r (a :: g :: rest) go = s.reply .stale := by
  have hlt : a.toNat < 48 := hi ▸ i.isLt
  obtain rfl : i = ⟨a.toNat, hlt⟩ := Fin.ext hi.symm
  rw [State.onHandle_eq, dif_pos hlt, h]

/-- A request on a current handle goes on after the read of its file (R14). -/
theorem State.onHandle_current (h : (s.fileAt ⟨i, g⟩).isSome = true) :
    s.onHandle r (a :: g :: rest) go = go ⟨i, g⟩ (s.readFile (.request r) i) := by
  have hlt : a.toNat < 48 := hi ▸ i.isLt
  obtain rfl : i = ⟨a.toNat, hlt⟩ := Fin.ext hi.symm
  obtain ⟨f, hf⟩ := Option.isSome_iff_exists.mp h
  rw [State.onHandle_eq, dif_pos hlt, hf]

end

/-! ### START (R55) -/

/-- START is served by its item. -/
theorem exec_start (ds : Disturbances) (s : State) :
    exec (.start ds) s = .next (s.serveReading .start ds startItem) := rfl

/-- START on a current handle at a channel's port (R55). -/
def startHandle (c : ChannelId) (h : Handle) (s : State) : Reply :=
  match (s.chan c).binding with
  | some b => if (s.chan c).state = .claimed ∧ b.handle = h then (s.startStage c b).reply .done else s.reply .state
  | none => s.reply .state

section
variable {s : State} {payload : List Byte} (p : PortId)

/-- START refuses a port whose role drives no channel (R55). -/
theorem startItem_role (h : ∀ c : ChannelId, (s.port p).role ≠ c.role) : startItem p payload s = s.reply .role := by
  rw [startItem, (Role.channel_eq_none _).mpr h]

/-- START at a channel's port goes on by the handle (R55). -/
theorem startItem_channel {c : ChannelId} (h : (s.port p).role = c.role) :
    startItem p payload s = s.onHandle .start payload (startHandle c) := by
  rw [startItem, (Role.channel_eq_some _ _).mpr h]
  rfl

end

/-- START refuses a channel that is not CLAIMED for the handle (R55). -/
theorem startHandle_state {s : State} {c : ChannelId} {h : Handle}
    (hno : (s.chan c).state ≠ .claimed ∨ (s.chan c).binding.map (·.handle) ≠ some h) :
    startHandle c h s = s.reply .state := by
  unfold startHandle
  cases hb : (s.chan c).binding with
  | none => rfl
  | some b =>
    refine if_neg ?_
    rintro ⟨hclaimed, rfl⟩
    rw [hb] at hno
    exact hno.elim (· hclaimed) (· rfl)

/-- START of the stage a channel is CLAIMED for (R55). -/
theorem startHandle_claimed {s : State} {c : ChannelId} {b : Binding} (hclaimed : (s.chan c).state = .claimed)
    (hb : (s.chan c).binding = some b) : startHandle c b.handle s = (s.startStage c b).reply .done := by
  unfold startHandle
  rw [hb]
  exact if_pos ⟨hclaimed, rfl⟩

/-- The bank of a bound channel is that of its handle's file (R45). -/
theorem State.bankOf_eq {s : State} {c : ChannelId} {b : Binding} {f : FileRec} (hb : (s.chan c).binding = some b)
    (hf : s.fileAt b.handle = some f) : s.bankOf c = s.bank f.bank := by
  rw [State.bankOf, State.recipe, hb, Option.bind_some, hf]
  rfl

section
variable (s : State) (c : ChannelId) (b : Binding)

/-- The state an accepted START sets its analyzer up in: the channel RUNNING, one attempt more (R55). -/
def State.begun : State :=
  (s.setChan c ⟨.running, some b, none, some ((s.bankOf c).contents.stageLimitMs b.stage)⟩).modStage b.handle b.stage
    StageRecord.start

/-- An accepted START sets the analyzer up, then recomputes the verdict (R55). -/
theorem State.startStage_begun : s.startStage c b = ((s.begun c b).startAnalyzer c).recompute b.handle.slot := rfl

/-- An accepted START takes its channel to RUNNING with its stage time limit running (R55). -/
theorem State.chan_startStage (d : ChannelId) : (s.startStage c b).chan d =
    if c = d then ⟨.running, some b, none, some ((s.bankOf c).contents.stageLimitMs b.stage)⟩ else s.chan d := by
  rw [State.startStage_begun, State.chan_congr (State.recompute_chans _ _),
    State.chan_congr (State.startAnalyzer_frame _ c).2.1, State.begun, State.chan_congr (State.modStage_chans _ _ _ _),
    State.chan_setChan]

/-- An accepted START leaves the other slots (R55). -/
theorem State.slot_startStage {j : SlotId} (h : j ≠ b.handle.slot) : (s.startStage c b).slot j = s.slot j := by
  obtain ⟨hengine, -⟩ := State.startAnalyzer_frame (s.begun c b) c
  have hslot : ((s.begun c b).startAnalyzer c).slot j = (s.begun c b).slot j := by unfold State.slot; rw [hengine]
  rw [State.startStage_begun, State.slot_recompute _ _ _ h, hslot, State.begun, State.slot_modStage _ _ _ _ _ h]
  rfl

/-- An accepted START keeps arbiter, recipe store, router and audio configuration. -/
theorem State.startStage_keeps : (s.startStage c b).arbiter = s.arbiter ∧ (s.startStage c b).store = s.store ∧
    (s.startStage c b).router = s.router ∧ (s.startStage c b).audio = s.audio := by
  obtain ⟨-, -, harbiter, hstore, hrouter, haudio, -⟩ := State.startAnalyzer_frame (s.begun c b) c
  rw [State.startStage_begun, State.recompute_arbiter, State.recompute_store, State.recompute_router,
    State.recompute_audio, harbiter, hstore, hrouter, haudio]
  simp [State.begun]

variable {s c b} {f : FileRec} (hf : s.fileAt b.handle = some f)
include hf

/-- The file of an accepted START (R55). -/
theorem State.fileAt_begun : (s.begun c b).fileAt b.handle = some (f.modStage b.stage StageRecord.start) := by
  obtain ⟨hgen, hfile⟩ := State.fileAt_eq.mp hf
  have hcurrent : s.handleOf b.handle.slot = b.handle := by rw [State.handleOf, hgen]
  refine State.fileAt_eq.mpr ⟨(State.gen_modStage _ _ _ _ _).trans hgen, ?_⟩
  refine (State.file_modStage _ _ _ _ _).trans ((if_pos ⟨rfl, hcurrent⟩).trans ?_)
  have hset : (s.setChan c ⟨.running, some b, none, some ((s.bankOf c).contents.stageLimitMs b.stage)⟩).file
      b.handle.slot = some f := hfile
  rw [hset]
  rfl

/-- An accepted START leaves its stage RUNNING with one attempt more (R55). -/
theorem State.file_startStage :
    (s.startStage c b).file b.handle.slot = some (f.modStage b.stage StageRecord.start).judged := by
  obtain ⟨hengine, -⟩ := State.startAnalyzer_frame (s.begun c b) c
  have hfile : ((s.begun c b).startAnalyzer c).file b.handle.slot = (s.begun c b).file b.handle.slot := by
    unfold State.file State.slot; rw [hengine]
  obtain ⟨-, hbegun⟩ := State.fileAt_eq.mp (State.fileAt_begun (c := c) hf)
  rw [State.startStage_begun, State.file_recompute_judged, if_pos rfl, hfile, hbegun]
  rfl

/-- An accepted START sets up the analyzer that the channel's bank gives (R72, R106, R129). -/
theorem State.startStage_analyzers (hb : (s.chan c).binding = some b) :
    (s.startStage c b).monitors = (s.startAnalyzer c).monitors ∧ (s.startStage c b).input = (s.startAnalyzer c).input ∧
    (s.startStage c b).noise = (s.startAnalyzer c).noise ∧ (s.startStage c b).leaks = (s.startAnalyzer c).leaks := by
  have hbound : ((s.begun c b).chan c).binding = some b := by
    rw [State.begun, State.chan_congr (State.modStage_chans _ _ _ _), State.chan_setChan, if_pos rfl]
  have hbank : (s.begun c b).bankOf c = s.bankOf c := by
    rw [State.bankOf_eq hbound (State.fileAt_begun hf), State.bankOf_eq hb hf]
    exact State.bank_congr (by simp [State.begun]) _
  rw [State.startStage_begun, State.recompute_monitors, State.recompute_input, State.recompute_noise,
    State.recompute_leaks]
  exact State.startAnalyzer_congr c hbank (by simp [State.begun]) (by simp [State.begun]) (by simp [State.begun])
    (by simp [State.begun])

end

/-- The run-in monitor a START sets up (R72). -/
theorem State.startAnalyzer_runIn (s : State) (x : RunInCh) :
    s.startAnalyzer x.id = s.setMonitor x (.started ((s.bankOf x.id).contents.step 1)) := by
  cases x <;> rfl

/-- The leak analyzer a START sets up (R129). -/
theorem State.startAnalyzer_leak (s : State) (x : LeakCh) :
    s.startAnalyzer x.id = s.setLeak x (.started (s.bankOf x.id).contents.leakFields) := by
  cases x <;> rfl

/-- Settles O35: START by its checks in order, and the analyzer by the channel. -/
theorem startBeginsTheClaimedStageAndSetsUpItsAnalyzer : Obligations.StartBeginsTheClaimedStageAndSetsUpItsAnalyzer := by
  refine ⟨fun s₀ p h ds a g hg hp => ?_, fun s c => ⟨?runin, ?noise, ?leak⟩⟩
  · rw [exec_start]
    refine ⟨fun hno => State.serveReading_refuses hg (startItem_role p (s := (s₀.disturb ds).granting p) hno),
      fun c hrole => ?_⟩
    have hitem := startItem_channel (payload := h.payload) p (s := (s₀.disturb ds).granting p) hrole
    rw [hp] at hitem
    refine ⟨fun ha => State.serveReading_refuses hg (hp ▸ hitem.trans (State.onHandle_range _ ha)), fun i hi =>
      ⟨fun hstale => State.serveReading_refuses hg
        (hp ▸ hitem.trans (State.onHandle_stale (s := (s₀.disturb ds).granting p) _ hi hstale)), fun hcurrent => ?_⟩⟩
    replace hitem := hitem.trans (State.onHandle_current (s := (s₀.disturb ds).granting p) _ hi hcurrent)
    refine ⟨fun hno => State.serveReading_answers hg (hp ▸ hitem.trans (startHandle_state hno)), ?_⟩
    intro t f rs hclaimed hb hf hrs
    have hfile := State.fileAt_readFile (s := (s₀.disturb ds).granting p) (h := ⟨i, g⟩) hcurrent hf
    generalize ((s₀.disturb ds).granting p).readFile (.request .start) i = r at *
    obtain ⟨harbiter, hstore, hrouter, haudio⟩ := r.startStage_keeps c ⟨⟨i, g⟩, t⟩
    obtain ⟨hmonitors, hinput, hnoise, hleaks⟩ := State.startStage_analyzers (b := ⟨⟨i, g⟩, t⟩) hfile hb
    refine ⟨_, State.serveReading_answers hg
      (hp ▸ hitem.trans (startHandle_claimed (b := ⟨⟨i, g⟩, t⟩) hclaimed hb)), ?chan, fun d hd => ?chans, ?file,
      fun j hj => State.slot_startStage r c ⟨⟨i, g⟩, t⟩ hj, harbiter, hstore, hmonitors, hinput, hnoise, hleaks, hrouter,
      haudio, ?held, ?last⟩
    case chan => exact (State.chan_startStage r c _ c).trans (by rw [if_pos rfl, State.bankOf_eq hb hfile])
    case chans => exact (State.chan_startStage r c _ d).trans (if_neg hd.symm)
    case file =>
      refine ⟨_, (State.file_answer _ _ _ _ _ i).trans (State.file_startStage (b := ⟨⟨i, g⟩, t⟩) hfile), ?_, rfl, rfl⟩
      rw [FileRec.modStage_of_records hrs]
      rfl
    case held => rw [State.port_answer, if_pos rfl]
    case last =>
      rw [State.port_answer, if_pos rfl]
      exact List.getLast?_concat
  case runin =>
    rintro x rfl
    refine ⟨_, s.startAnalyzer_runIn x, rfl, rfl, ?_, rfl, rfl, rfl, rfl, rfl, rfl, rfl, rfl, rfl, rfl, rfl⟩
    by_cases h : ((s.bankOf x.id).contents.step 1).settleMs = 0
    · simp [Monitor.started, Monitor.enterStep, h]
    · simp [Monitor.started, Monitor.enterStep, h]
  case noise =>
    rintro rfl
    rfl
  case leak =>
    rintro x rfl
    exact s.startAnalyzer_leak x

/-! ### ABANDON (R59) -/

/-- ABANDON is served by its item. -/
theorem exec_abandon (ds : Disturbances) (s : State) :
    exec (.abandon ds) s = .next (s.serveReading .abandon ds abandonItem) := rfl

/-- ABANDON on a current handle at a channel's port (R59). -/
def abandonHandle (c : ChannelId) (h : Handle) (s : State) : Reply :=
  if ((s.chan c).state = .claimed ∨ (s.chan c).state = .running) ∧ (s.chan c).binding.map (·.handle) = some h then
    (s.endStage c ⟨.cutShort, .station, none⟩).reply .done
  else s.reply .state

section
variable {s : State} {payload : List Byte} (p : PortId)

/-- ABANDON refuses a port whose role drives no channel (R59). -/
theorem abandonItem_role (h : ∀ c : ChannelId, (s.port p).role ≠ c.role) : abandonItem p payload s = s.reply .role := by
  rw [abandonItem, (Role.channel_eq_none _).mpr h]

/-- ABANDON at a channel's port goes on by the handle (R59). -/
theorem abandonItem_channel {c : ChannelId} (h : (s.port p).role = c.role) :
    abandonItem p payload s = s.onHandle .abandon payload (abandonHandle c) := by
  rw [abandonItem, (Role.channel_eq_some _ _).mpr h]
  rfl

end

/-! ### RESULT (R67) -/

/-- RESULT is served by its item. -/
theorem exec_result (ds : Disturbances) (s : State) :
    exec (.result ds) s = .next (s.serveReading .result ds resultItem) := rfl

/-- RESULT on a current handle (R67, R177). -/
def resultHandle (t : Stage) (h : Handle) (s : State) : Reply :=
  match s.file h.slot with
  | some f => ⟨s, .done, h.bytes ++ [boolByte f.damaged] ++ blockOf t (f.records.map fun rs => rs.get t)⟩
  | none => s.reply .stale

/-- A port may read a stage: port 0 every stage, another its own stage type (R67). -/
theorem mayRead_iff (p : PortId) (role : Role) (t : Stage) :
    mayRead p role t = true ↔ p = 0 ∨ ∃ c : ChannelId, role = c.role ∧ c.stage = t := by
  simp [mayRead, Role.channel_eq_some]

section
variable {s : State} {a g : Byte} (p : PortId)

/-- RESULT refuses a byte that names no stage (R67). -/
theorem resultItem_range {b : Byte} (h : ∀ t : Stage, t.byte ≠ b) : resultItem p [a, g, b] s = s.reply .range := by
  have hnone : Stage.ofByte ([a, g, b].getD 2 0) = none := Stage.ofByte_of_forall_ne h
  rw [resultItem, hnone]

/-- RESULT refuses a port that may not read the stage (R67). -/
theorem resultItem_role {t : Stage} (h : ¬mayRead p (s.port p).role t = true) :
    resultItem p [a, g, t.byte] s = s.reply .role := by
  have hstage : Stage.ofByte ([a, g, t.byte].getD 2 0) = some t := t.ofByte_byte
  rw [resultItem, hstage]
  exact if_pos (by simpa using h)

/-- RESULT at a port that may read the stage goes on by the handle (R67). -/
theorem resultItem_reads {t : Stage} (h : mayRead p (s.port p).role t = true) :
    resultItem p [a, g, t.byte] s = s.onHandle .result [a, g, t.byte] (resultHandle t) := by
  have hstage : Stage.ofByte ([a, g, t.byte].getD 2 0) = some t := t.ofByte_byte
  rw [resultItem, hstage]
  exact if_neg (by simp [h])

end

/-- Settles O37: ABANDON and RESULT by their checks in order. -/
theorem abandonEndsAndResultReadsTheStage : Obligations.AbandonEndsAndResultReadsTheStage := by
  intro s₀ p h ds a g s
  refine ⟨fun hg hp => ?abandon, fun hg b hp => ?result⟩
  case abandon =>
    rw [exec_abandon]
    refine ⟨fun hno => State.serveReading_refuses hg (abandonItem_role p (s := s.granting p) hno), fun c hrole => ?_⟩
    have hitem := abandonItem_channel (payload := h.payload) p (s := s.granting p) hrole
    rw [hp] at hitem
    refine ⟨fun ha => State.serveReading_refuses hg (hp ▸ hitem.trans (State.onHandle_range _ ha)), fun i hi =>
      ⟨fun hstale => State.serveReading_refuses hg
        (hp ▸ hitem.trans (State.onHandle_stale (s := s.granting p) _ hi hstale)), fun hcurrent => ?_⟩⟩
    replace hitem := hitem.trans (State.onHandle_current (s := s.granting p) _ hi hcurrent)
    refine ⟨fun hstate hb => State.serveReading_answers hg (hp ▸ hitem.trans (if_pos ⟨hstate, hb⟩)),
      fun hno => State.serveReading_answers hg (hp ▸ hitem.trans (if_neg ?_))⟩
    rintro ⟨hstate, hb⟩
    rcases hno with hidle | hending | hother
    · rw [hidle] at hstate
      simp at hstate
    · rw [hending] at hstate
      simp at hstate
    · exact hother hb
  case result =>
    rw [exec_result]
    refine ⟨fun hno => State.serveReading_refuses hg (hp ▸ resultItem_range p hno), ?_⟩
    rintro t rfl
    refine ⟨fun hp0 hno => State.serveReading_refuses hg (hp ▸ resultItem_role p ?_), fun hmay => ?_⟩
    · rw [mayRead_iff]
      rintro (h0 | ⟨c, hrole, hstage⟩)
      · exact hp0 h0
      · exact hno c hrole hstage
    · have hitem := resultItem_reads (a := a) (g := g) p (s := s.granting p) ((mayRead_iff _ _ _).mpr hmay)
      refine ⟨fun ha => State.serveReading_refuses hg (hp ▸ hitem.trans (State.onHandle_range _ ha)), fun i hi =>
        ⟨fun hstale => State.serveReading_refuses hg
          (hp ▸ hitem.trans (State.onHandle_stale (s := s.granting p) _ hi hstale)), fun hcurrent => ?_⟩⟩
      replace hitem := hitem.trans (State.onHandle_current (s := s.granting p) _ hi hcurrent)
      obtain ⟨f₀, hf₀⟩ := Option.isSome_iff_exists.mp hcurrent
      have hlive : (((s.granting p).readFile (.request .result) i).file i).isSome = true := by
        rw [State.live_readFile, State.file_granting, (State.fileAt_eq.mp hf₀).2]
        rfl
      obtain ⟨f, hf⟩ := Option.isSome_iff_exists.mp hlive
      refine ⟨f, hf, State.serveReading_answers hg (hp ▸ hitem.trans ?_)⟩
      have hslot : BitVec.ofNat 8 i.val = a := by rw [← hi, BitVec.ofNat_toNat, BitVec.setWidth_eq]
      rw [resultHandle, hf, Handle.bytes, hslot]
      dsimp only
      rw [FileRec.boolByte_damaged]

end Sys2Proof.Machine
end

section
/-! CELL RESET (R65, R171): what every channel's end keeps, and what becomes of the stage a channel is bound for. -/

namespace Sys2Proof.Machine

/-! ### What a cell reset keeps as it ends the channels (R25, R171) -/

/-- To end a channel that is bound for nothing changes nothing (R62). -/
theorem State.engineEnd_unbound {s : State} {c : ChannelId} (hb : (s.chan c).binding = none) (cause : Cause) :
    s.engineEnd c cause = s := by
  unfold State.engineEnd
  rw [hb]

/-- What a file keeps through its life but for verdict and stage records (R4, R5). -/
def FileRec.label (f : FileRec) : Serial × Word × Nat × BankId × List Nat := (f.serial, f.variant, f.order, f.bank, f.holds)

/-- A later state of a cell reset: the ports have grown, settings, recipes and the file table stand (R171). -/
structure State.Kept (s u : State) : Prop where
  grew : ∀ q : PortId, (s.port q).Grew (u.port q)
  scheme : u.arbiter.scheme = s.arbiter.scheme
  priorities : u.arbiter.priorities = s.arbiter.priorities
  audio : u.audio = s.audio
  store : u.store = s.store
  index : u.engine.index = s.engine.index
  lineOrder : u.engine.lineOrder = s.engine.lineOrder
  admissions : u.engine.admissions = s.engine.admissions
  strayEnabled : u.engine.strayEnabled = s.engine.strayEnabled
  gen : ∀ i : SlotId, (u.slot i).gen = (s.slot i).gen
  label : ∀ i : SlotId, (u.file i).map FileRec.label = (s.file i).map FileRec.label
  multi : u.router.multi = s.router.multi
  route : ∀ k : NoticeKind, u.router.route k = s.router.route k

namespace State.Kept
variable {s u v : State}

/-- A state keeps itself. -/
theorem refl (s : State) : s.Kept s :=
  ⟨fun _ => .refl _, rfl, rfl, rfl, rfl, rfl, rfl, rfl, rfl, fun _ => rfl, fun _ => rfl, rfl, fun _ => rfl⟩

/-- What is kept is kept on. -/
theorem trans (h : s.Kept u) (k : u.Kept v) : s.Kept v :=
  ⟨fun q => (h.grew q).trans (k.grew q), k.scheme.trans h.scheme, k.priorities.trans h.priorities,
    k.audio.trans h.audio, k.store.trans h.store, k.index.trans h.index, k.lineOrder.trans h.lineOrder,
    k.admissions.trans h.admissions, k.strayEnabled.trans h.strayEnabled, fun i => (k.gen i).trans (h.gen i),
    fun i => (k.label i).trans (h.label i), k.multi.trans h.multi, fun x => (k.route x).trans (h.route x)⟩

/-- A captured error keeps what a cell reset keeps. -/
theorem captureError (s : State) (i : SlotId) (item : CaptureItem) (errs : RecordErrors) :
    s.Kept (s.captureError i item errs) := by
  refine ⟨fun q => ?_, by simp, by simp, by simp, by simp, by simp, by simp, by simp, by simp, by simp, by simp, ?_,
    State.route_captureError s i item errs⟩
  · unfold State.captureError
    dsimp only
    split
    · exact Port.Grew.trans (b := State.port { s with router := { s.router with capture := some (s.router.capture.getD
        ⟨errorKind errs, i, errorSyndrome errs, item⟩) } } q) (.refl _) (State.grew_raise _ _ _ _ q)
    · exact .refl _
  · rw [State.router_captureError]

/-- Other words in error keep what a cell reset keeps. -/
theorem setErrors (s : State) (i : SlotId) (errs : RecordErrors) : s.Kept (s.setErrors i errs) :=
  ⟨fun _ => .refl _, rfl, rfl, rfl, rfl, rfl, rfl, rfl, rfl, fun j => State.gen_setErrors s i j errs,
    fun j => by rw [State.file_setErrors], rfl, fun _ => rfl⟩

/-- Another verdict or other records of a file keep what a cell reset keeps. -/
theorem setFile {i : SlotId} {f g : FileRec} (hf : s.file i = some f) (hlabel : g.label = f.label) :
    s.Kept (s.setFile i g) := by
  refine ⟨fun _ => .refl _, rfl, rfl, rfl, rfl, rfl, rfl, rfl, rfl, fun j => State.gen_setFile s i j g, fun j => ?_, rfl,
    fun _ => rfl⟩
  rw [State.file_setFile]
  split
  · next hj => rw [← hj, hf, Option.map_some, Option.map_some, hlabel]
  · rfl

/-- A recomputed verdict keeps what a cell reset keeps. -/
theorem recompute (s : State) (i : SlotId) : s.Kept (s.recompute i) := by
  obtain ⟨hindex, horder, hadmissions, hstray⟩ := s.recompute_index i
  refine ⟨s.grew_recompute i, by simp, by simp, by simp, by simp, hindex, horder, hadmissions, hstray, by simp,
    fun j => ?_, by simp, by simp⟩
  rw [State.file_recompute_judged]
  split
  · cases s.file j <;> rfl
  · rfl

/-- An engine-side end keeps what a cell reset keeps. -/
theorem engineEnd (s : State) (c : ChannelId) (cause : Cause) : s.Kept (s.engineEnd c cause) := by
  cases hb : (s.chan c).binding with
  | none => rw [State.engineEnd_unbound hb]; exact refl s
  | some b =>
    obtain ⟨hindex, horder, hadmissions, hstray⟩ := s.engineEnd_index c cause
    have harbiter := State.arbiter_engineEnd hb cause
    refine ⟨s.grew_engineEnd c cause, by rw [harbiter], by rw [harbiter], by simp, by simp, hindex, horder, hadmissions,
      hstray, by simp, fun j => ?_, by simp, by simp⟩
    unfold State.engineEnd
    rw [hb]
    dsimp only
    rw [(recompute _ _).label, State.file_directEnd, State.file_restChannel, State.file_modStage, State.file_dropPosting]
    split
    · cases s.file j <;> rfl
    · rfl

/-- Damage keeps what a cell reset keeps. -/
theorem damage {i : SlotId} {f : FileRec} (hf : s.file i = some f) : s.Kept (s.damage i f) := by
  have hlost : s.Kept (s.lost i f) :=
    (setErrors s i []).trans (setFile ((State.file_setErrors _ _ _ _).trans hf) rfl)
  rw [State.damage_lost]
  refine hlost.trans (trans ?_ (recompute _ i))
  unfold State.freed
  split
  · exact engineEnd _ _ _
  · exact refl _

/-- The read of a file keeps what a cell reset keeps. -/
theorem readFile (s : State) (item : CaptureItem) (i : SlotId) : s.Kept (s.readFile item i) :=
  readFile_kept (P := s.Kept) (fun u i item errs hu => hu.trans (captureError u i item errs))
    (fun u i errs _ hu => hu.trans (setErrors u i errs)) (fun _ _ _ hf hu => hu.trans (damage hf)) (refl s) item i

/-- A channel's end by a cell reset keeps what a cell reset keeps. -/
theorem resetChannel (s : State) (c : ChannelId) : s.Kept (s.resetChannel c) := by
  unfold State.resetChannel
  split
  · exact (readFile _ _ _).trans (engineEnd _ _ _)
  · exact refl s

/-- The channels' ends by a cell reset keep what a cell reset keeps. -/
theorem resetChannels (cs : List ChannelId) (s : State) : s.Kept (cs.foldl State.resetChannel s) := by
  induction cs generalizing s with
  | nil => exact refl s
  | cons c cs ih => exact (resetChannel s c).trans (ih _)

/-- The handles stand. -/
theorem handleOf (h : s.Kept u) (i : SlotId) : u.handleOf i = s.handleOf i := State.handleOf_congr (h.gen i)

/-- The port of a channel's role stands. -/
theorem portOf (h : s.Kept u) (c : ChannelId) : u.portOf c = s.portOf c := by
  unfold State.portOf
  refine congrArg (allPorts.find? ·) (funext fun q => ?_)
  rw [(h.grew q).role]

/-- A live file stays live. -/
theorem live (h : s.Kept u) (i : SlotId) : (u.file i).isSome = (s.file i).isSome := by
  have hlabel := congrArg Option.isSome (h.label i)
  simpa using hlabel

end State.Kept

/-! ### The slots and channels a channel's end reaches (R65) -/

/-- The read of a file leaves the other slots (R14). -/
theorem State.slot_readFile_of_ne (s : State) (item : CaptureItem) {i j : SlotId} (h : i ≠ j) :
    (s.readFile item i).slot j = s.slot j := by
  unfold State.readFile
  split
  · dsimp only
    split
    · rfl
    · split
      · rw [State.slot_setErrors, if_neg h, State.slot_captureError]
      · rw [State.slot_damage_of_ne _ _ h, State.slot_captureError]
  · rfl

/-- The end of the stage a file's channel is bound for rests that channel alone. -/
theorem State.chan_freed_cases (s : State) (i : SlotId) (cause : Cause) (c : ChannelId) :
    (s.freed i cause).chan c = s.chan c ∨
      (s.freed i cause).chan c = .rest ∧ ∃ b, (s.chan c).binding = some b ∧ b.handle.slot = i := by
  cases hd : s.boundTo (s.handleOf i) with
  | none => rw [State.freed_none hd]; exact .inl rfl
  | some d =>
    obtain ⟨b, hb, hhandle⟩ := State.boundTo_some hd
    rw [State.freed_some hd, State.chan_engineEnd]
    split
    · next hdc =>
      subst hdc
      exact .inr ⟨by rw [hb]; rfl, b, hb, congrArg Handle.slot hhandle⟩
    · exact .inl rfl

/-- The read of a file rests no channel but one bound for it (R64). -/
theorem State.chan_readFile_cases (s : State) (item : CaptureItem) (i : SlotId) (c : ChannelId) :
    (s.readFile item i).chan c = s.chan c ∨
      (s.readFile item i).chan c = .rest ∧ ∃ b, (s.chan c).binding = some b ∧ b.handle.slot = i := by
  unfold State.readFile
  split
  · next f _ =>
    dsimp only
    split
    · exact .inl rfl
    · split
      · exact .inl (State.chan_congr (by simp) c)
      · rw [State.damage_lost, State.chan_congr (State.recompute_chans _ _)]
        have hchan := State.chan_congr (State.captureError_chans s i item (s.slot i).errors) c
        have hcases := ((s.captureError i item (s.slot i).errors).lost i f).chan_freed_cases i .damaged c
        rwa [show ((s.captureError i item (s.slot i).errors).lost i f).chan c = s.chan c from hchan] at hcases
  · exact .inl rfl

/-- A channel's end by a cell reset rests that channel, and else only channels bound for the same slot (R65). -/
theorem State.chan_resetChannel {s : State} {d : ChannelId} {b : Binding} (hb : (s.chan d).binding = some b)
    {c : ChannelId} (h : c ≠ d) : (s.resetChannel d).chan c = s.chan c ∨
      (s.resetChannel d).chan c = .rest ∧ ∃ b', (s.chan c).binding = some b' ∧ b'.handle.slot = b.handle.slot := by
  unfold State.resetChannel
  rw [hb]
  dsimp only
  rw [State.chan_engineEnd_of_ne _ h]
  exact State.chan_readFile_cases _ _ _ _

/-- To end a channel that is bound for nothing changes nothing (R65). -/
theorem State.resetChannel_unbound {s : State} {d : ChannelId} (hb : (s.chan d).binding = none) :
    s.resetChannel d = s := by
  unfold State.resetChannel
  rw [hb]

/-- A channel's end by a cell reset leaves each channel as it was, or at rest (R65). -/
theorem State.chan_resetChannel_cases (s : State) (d c : ChannelId) :
    (s.resetChannel d).chan c = s.chan c ∨ (s.resetChannel d).chan c = .rest := by
  cases hb : (s.chan d).binding with
  | none => rw [State.resetChannel_unbound hb]; exact .inl rfl
  | some b =>
    by_cases h : c = d
    · subst h
      unfold State.resetChannel
      rw [hb]
      dsimp only
      rw [State.chan_engineEnd, if_pos rfl]
      split
      · exact .inr rfl
      · exact State.chan_readFile _ _ _ _
    · exact (State.chan_resetChannel hb h).imp_right And.left

/-- A channel's end by a cell reset leaves the slots it is not bound for (R65). -/
theorem State.slot_resetChannel {s : State} {d : ChannelId} {i : SlotId}
    (h : ∀ b ∈ (s.chan d).binding, b.handle.slot ≠ i) : (s.resetChannel d).slot i = s.slot i := by
  cases hb : (s.chan d).binding with
  | none => rw [State.resetChannel_unbound hb]
  | some b =>
    have hslot := h b hb
    unfold State.resetChannel
    rw [hb]
    dsimp only
    refine Eq.trans ?_ (State.slot_readFile_of_ne s (.request .cellReset) hslot)
    rcases s.chan_readFile (.request .cellReset) b.handle.slot d with hsame | hrest
    · exact State.slot_engineEnd _ d .reset b (by rw [hsame, hb]) i hslot.symm
    · rw [State.engineEnd_unbound (by rw [hrest]; rfl)]

/-- The channels' ends by a cell reset leave the slots no channel is bound for (R25, R65). -/
theorem State.slot_resetChannels (cs : List ChannelId) {s : State} {i : SlotId}
    (h : ∀ c : ChannelId, ∀ b ∈ (s.chan c).binding, b.handle.slot ≠ i) :
    (cs.foldl State.resetChannel s).slot i = s.slot i := by
  induction cs generalizing s with
  | nil => rfl
  | cons d cs ih =>
    rw [List.foldl_cons, ih fun c b hb => ?_]
    · exact State.slot_resetChannel (h d)
    · rcases s.chan_resetChannel_cases d c with hsame | hrest
      · exact h c b (hsame ▸ hb)
      · rw [hrest] at hb
        cases hb

/-! ### A file whose record can be read (R65, R179) -/

/-- No word of a slot's record has more than one wrong bit. -/
def State.readable (s : State) (i : SlotId) : Prop := ∀ e ∈ (s.slot i).errors, e.multiple = false

/-- The read of a record that can be corrected at most fills the capture record and writes the words back (R179). -/
theorem State.readFile_of_readable {s : State} {i : SlotId} (h : s.readable i) (item : CaptureItem) :
    s.readFile item i = s ∨
      s.readFile item i = (s.captureError i item (s.slot i).errors).setErrors i (writtenBack (s.slot i).errors) := by
  unfold State.readFile
  dsimp only
  split
  · split
    · exact .inl rfl
    · rw [errorKind_correctable h]
      exact .inr rfl
  · exact .inl rfl

section
variable {s : State} {i : SlotId} (h : s.readable i) (item : CaptureItem)
include h

/-- The read of a readable record ends no channel (R179). -/
theorem State.chans_readFile_of_readable : (s.readFile item i).chans = s.chans := by
  rcases s.readFile_of_readable h item with hread | hread <;> rw [hread]
  simp

/-- The read of a readable record loses no stage record (R179). -/
theorem State.staged_readFile_of_readable (j : SlotId) : (s.readFile item i).staged j = s.staged j := by
  rcases s.readFile_of_readable h item with hread | hread <;> rw [hread]
  rw [State.staged_congr (s := s.captureError i item (s.slot i).errors) (State.file_setErrors _ _ _ _) fun f _ => rfl,
    State.staged_of_engine (s := s) (by simp) (by simp)]

/-- The read of a readable record leaves it readable (R179). -/
theorem State.readable_readFile : (s.readFile item i).readable i := by
  rcases s.readFile_of_readable h item with hread | hread <;> unfold State.readable <;> rw [hread]
  · exact h
  · rw [State.slot_setErrors, if_pos rfl]
    exact fun e he => h e (List.mem_of_mem_filter he)

end

/-- The stage records by an engine-side end: the end on the stage its channel is bound for, while its handle is
current (R62). -/
theorem State.staged_engineEnd {s : State} {c : ChannelId} {b : Binding} (hb : (s.chan c).binding = some b)
    (cause : Cause) (i : SlotId) : (s.engineEnd c cause).staged i =
      if b.handle = s.handleOf i then
        (s.staged i).map fun x => (x.1, x.2.set b.stage
          ((x.2.get b.stage).applyEnd (x.1.retryLimit b.stage) ⟨.cutShort, cause, none⟩))
      else s.staged i := by
  unfold State.engineEnd
  rw [hb]
  dsimp only
  rw [State.staged_recompute, State.staged_of_engine (State.directEnd_engine _ _ _ _ _) (State.directEnd_store _ _ _ _ _),
    State.staged_of_engine (State.restChannel_engine _ _) (State.restChannel_store _ _), State.staged_modStage]
  have hdrop : (s.dropPosting c).staged i = s.staged i := rfl
  have hhandle : (s.dropPosting c).handleOf i = s.handleOf i := rfl
  rw [hdrop, hhandle]
  by_cases hcurrent : b.handle = s.handleOf i
  · rw [if_pos hcurrent, if_pos ⟨by rw [hcurrent]; rfl, hcurrent.symm⟩]
    cases hx : s.staged i with
    | none => rfl
    | some x =>
      obtain ⟨f, hf, -, hk⟩ := State.staged_eq_some.mp hx
      have hfile : s.fileAt b.handle = some f := State.fileAt_eq.mpr ⟨by rw [hcurrent]; rfl, by rw [hcurrent]; exact hf⟩
      rw [Option.map_some, Option.map_some, State.retryLimit_eq hfile, hk]
  · rw [if_neg hcurrent, if_neg fun h => hcurrent h.2.symm]

/-- A stage record with the end of a cell reset applied (R60, R65). -/
def StageRecord.cut (r : StageRecord) (k : Contents) (t : Stage) : StageRecord :=
  r.applyEnd (k.retryLimit t) ⟨.cutShort, .reset, none⟩

/-- The end of a cell reset applied twice is that end. -/
theorem StageRecord.cut_cut (r : StageRecord) (k : Contents) (t : Stage) : (r.cut k t).cut k t = r.cut k t := rfl

section
variable {s : State} {i : SlotId} (h : s.readable i) {d : ChannelId}
include h

/-- A channel's end by a cell reset leaves a readable record readable. -/
theorem State.readable_resetChannel : (s.resetChannel d).readable i := by
  cases hb : (s.chan d).binding with
  | none => rw [State.resetChannel_unbound hb]; exact h
  | some b =>
    unfold State.resetChannel State.readable
    rw [hb]
    dsimp only
    rw [State.errors_engineEnd]
    by_cases hslot : b.handle.slot = i
    · subst hslot
      exact State.readable_readFile h _
    · rw [State.slot_readFile_of_ne _ _ hslot]
      exact h

/-- A channel bound for a file whose record can be read is ended by no other channel's end. -/
theorem State.chan_resetChannel_of_readable {c : ChannelId} {b : Binding} (hc : (s.chan c).binding = some b)
    (hslot : b.handle.slot = i) (hne : c ≠ d) : (s.resetChannel d).chan c = s.chan c := by
  cases hd : (s.chan d).binding with
  | none => rw [State.resetChannel_unbound hd]
  | some b' =>
    by_cases hslot' : b'.handle.slot = i
    · unfold State.resetChannel
      rw [hd]
      dsimp only
      rw [State.chan_engineEnd_of_ne _ hne, hslot']
      exact State.chan_congr (State.chans_readFile_of_readable h _) c
    · refine (State.chan_resetChannel hd hne).resolve_right ?_
      rintro ⟨-, b₁, hb₁, hslot₁⟩
      rw [hc] at hb₁
      rw [← Option.some.inj hb₁, hslot] at hslot₁
      exact hslot' hslot₁.symm

/-- The stage records of a file whose record can be read, by a channel's end: the end on the stage the channel is bound
for, while its handle is current (R65). -/
theorem State.staged_resetChannel {b : Binding} (hb : (s.chan d).binding = some b) :
    (s.resetChannel d).staged i =
      if b.handle = s.handleOf i then
        (s.staged i).map fun x => (x.1, x.2.set b.stage ((x.2.get b.stage).cut x.1 b.stage))
      else s.staged i := by
  unfold State.resetChannel
  rw [hb]
  dsimp only
  have hhandle := (State.Kept.readFile s (.request .cellReset) b.handle.slot).handleOf i
  by_cases hslot : b.handle.slot = i
  · have hbound : ((s.readFile (.request .cellReset) b.handle.slot).chan d).binding = some b := by
      rw [hslot, State.chan_congr (State.chans_readFile_of_readable h _), hb]
    rw [State.staged_engineEnd hbound, hhandle, hslot, State.staged_readFile_of_readable h]
    rfl
  · have hstale : b.handle ≠ s.handleOf i := fun hcurrent => hslot (congrArg Handle.slot hcurrent)
    have hsame : (s.readFile (.request .cellReset) b.handle.slot).staged i = s.staged i :=
      State.staged_congr (State.file_readFile_of_ne _ _ hslot) fun f _ => by
        rw [State.bank_congr (State.readFile_store _ _ _)]
    rw [if_neg hstale]
    rcases s.chan_readFile (.request .cellReset) b.handle.slot d with hchan | hrest
    · rw [State.staged_engineEnd (b := b) (by rw [hchan, hb]), hhandle, if_neg hstale, hsame]
    · rw [State.engineEnd_unbound (by rw [hrest]; rfl), hsame]

end

/-- What the channels' ends by a cell reset make of a file's stage records: each stays or has the end applied; it stays
where no channel is bound for its stage, and has the end applied where one of those ended is (R65). -/
structure ResetStages (s : State) (cs : List ChannelId) (i : SlotId) (k : Contents) (rs rs' : StageRecords) : Prop where
  each : ∀ x : Stage, rs'.get x = rs.get x ∨ rs'.get x = (rs.get x).cut k x
  unbound : ∀ x : Stage, (∀ d : ChannelId, (s.chan d).binding ≠ some ⟨s.handleOf i, x⟩) → rs'.get x = rs.get x
  bound : ∀ c ∈ cs, ∀ x : Stage, (s.chan c).binding = some ⟨s.handleOf i, x⟩ → rs'.get x = (rs.get x).cut k x

/-- The stage records of a file whose record can be read, by a channel's end: stage by stage (R65). -/
theorem State.stages_resetChannel {s : State} {i : SlotId} {k : Contents} {rs : StageRecords} (h : s.readable i)
    (hrs : s.staged i = some (k, rs)) (d : ChannelId) :
    ∃ rs₁, (s.resetChannel d).staged i = some (k, rs₁) ∧
      (∀ x, rs₁.get x = rs.get x ∨ rs₁.get x = (rs.get x).cut k x) ∧
      (∀ x, (s.chan d).binding ≠ some ⟨s.handleOf i, x⟩ → rs₁.get x = rs.get x) ∧
      (∀ x, (s.chan d).binding = some ⟨s.handleOf i, x⟩ → rs₁.get x = (rs.get x).cut k x) := by
  cases hb : (s.chan d).binding with
  | none => exact ⟨rs, by rw [State.resetChannel_unbound hb, hrs], fun x => .inl rfl, fun x _ => rfl, fun x hx => by cases hx⟩
  | some b =>
    have hstaged := State.staged_resetChannel h hb
    rw [hrs] at hstaged
    by_cases hcurrent : b.handle = s.handleOf i
    · rw [if_pos hcurrent] at hstaged
      refine ⟨_, hstaged, fun x => ?_, fun x hx => ?_, fun x hx => ?_⟩ <;> rw [StageRecords.get_set]
      · split
        · next hstage => exact .inr (by rw [hstage])
        · exact .inl rfl
      · rw [if_neg]
        rintro rfl
        exact hx (by rw [← hcurrent])
      · obtain rfl := Option.some.inj hx
        rw [if_pos rfl]
    · rw [if_neg hcurrent] at hstaged
      refine ⟨rs, hstaged, fun x => .inl rfl, fun x _ => rfl, fun x hx => absurd ?_ hcurrent⟩
      rw [Option.some.inj hx]

/-- The stage records of a file whose record can be read, by the ends of the channels (R65). -/
theorem State.staged_resetChannels (cs : List ChannelId) {s : State} {i : SlotId} {k : Contents} {rs : StageRecords}
    (h : s.readable i) (hrs : s.staged i = some (k, rs)) :
    ∃ rs', (cs.foldl State.resetChannel s).staged i = some (k, rs') ∧ ResetStages s cs i k rs rs' := by
  induction cs generalizing s rs with
  | nil => exact ⟨rs, hrs, fun x => .inl rfl, fun x _ => rfl, fun c hc => absurd hc List.not_mem_nil⟩
  | cons d cs ih =>
    obtain ⟨rs₁, hrs₁, heach₁, hunbound₁, hbound₁⟩ := State.stages_resetChannel h hrs d
    obtain ⟨rs', hrs', heach, hunbound, hbound⟩ := ih (State.readable_resetChannel h) hrs₁
    rw [(State.Kept.resetChannel s d).handleOf] at hunbound hbound
    have hcut : ∀ x, rs₁.get x = (rs.get x).cut k x → rs'.get x = (rs.get x).cut k x := by
      intro x hx
      rcases heach x with hsame | happlied
      · rw [hsame, hx]
      · rw [happlied, hx, StageRecord.cut_cut]
    refine ⟨rs', hrs', fun x => ?each, fun x hno => ?unbound, fun c hc x hcx => ?bound⟩
    case each =>
      rcases heach₁ x with hsame | happlied
      · rw [← hsame]; exact heach x
      · exact .inr (hcut x happlied)
    case unbound =>
      rw [hunbound x fun c hc => ?_, hunbound₁ x (hno d)]
      rcases s.chan_resetChannel_cases d c with hsame | hrest
      · exact hno c (hsame ▸ hc)
      · rw [hrest] at hc
        cases hc
    case bound =>
      by_cases hcd : c = d
      · exact hcut x (hbound₁ x (hcd ▸ hcx))
      · have hkept := State.chan_resetChannel_of_readable h hcx rfl hcd
        have happlied := hbound c ((List.mem_cons.mp hc).resolve_left hcd) x (by rw [hkept, hcx])
        rcases heach₁ x with hsame | hx
        · rw [happlied, hsame]
        · rw [happlied, hx, StageRecord.cut_cut]

/-! ### The END directives of a cell reset (R65, R66) -/

/-- The END directive of a binding cut short with a cause (R66, R177). -/
def endFrame (b : Binding) (cause : Cause) : Frame :=
  ⟨.directive, 0, 4, b.handle.bytes ++ [b.stage.byte] ++ bytesOf 1 3 ++ bytesOf 1 cause.num⟩

/-- An engine-side end hands its END directive. -/
theorem State.endFrame_mem_engineEnd {s : State} {c : ChannelId} {b : Binding} {q : PortId}
    (hb : (s.chan c).binding = some b) (hq : s.portOf c = some q) (cause : Cause) :
    endFrame b cause ∈ ((s.engineEnd c cause).port q).tx := by
  refine (State.tx_engineEnd hb hq cause).subset (List.mem_append_right _ (List.mem_singleton.mpr ?_))
  simp [endFrame, bytesOf]

/-- A channel bound for a file whose record can be read is ended RESET by a cell reset (R65). -/
theorem State.endFrame_mem_resetChannels {cs : List ChannelId} {s : State} {c : ChannelId} {b : Binding} {q : PortId}
    (hc : c ∈ cs) (hb : (s.chan c).binding = some b) (hq : s.portOf c = some q) (h : s.readable b.handle.slot) :
    endFrame b .reset ∈ ((cs.foldl State.resetChannel s).port q).tx := by
  induction cs generalizing s with
  | nil => exact absurd hc List.not_mem_nil
  | cons d cs ih =>
    by_cases hcd : c = d
    · subst hcd
      refine ((State.Kept.resetChannels cs (s.resetChannel c)).grew q).tx.subset ?_
      unfold State.resetChannel
      rw [hb]
      dsimp only
      refine State.endFrame_mem_engineEnd ?_ ?_ .reset
      · rw [State.chan_congr (State.chans_readFile_of_readable h _), hb]
      · rw [(State.Kept.readFile _ _ _).portOf, hq]
    · exact ih ((List.mem_cons.mp hc).resolve_left hcd) (by rw [State.chan_resetChannel_of_readable h hb rfl hcd, hb])
        (by rw [(State.Kept.resetChannel _ _).portOf, hq]) (State.readable_resetChannel h)

/-! ### A file whose record is lost (R64, R65, R180) -/

/-- Stage records once lost stay lost through an engine-side end (R5). -/
theorem State.records_engineEnd_of_lost {s : State} {i : SlotId} (h : s.records i = none) (c : ChannelId)
    (cause : Cause) : (s.engineEnd c cause).records i = none := by
  unfold State.engineEnd
  split
  · have hdrop : (s.dropPosting c).records i = none := h
    rw [State.records_recompute, State.records_congr (State.file_directEnd _ _ _ _ _ i),
      State.records_congr (State.file_restChannel _ _ i), State.records_modStage, hdrop]
    split <;> rfl
  · exact h

/-- Stage records once lost stay lost through the channels' ends (R5). -/
theorem State.records_resetChannels (cs : List ChannelId) {s : State} {i : SlotId} (h : s.records i = none) :
    (cs.foldl State.resetChannel s).records i = none := by
  induction cs generalizing s with
  | nil => exact h
  | cons d cs ih =>
    refine ih ?_
    unfold State.resetChannel
    split
    · refine State.records_engineEnd_of_lost (readFile_kept (P := fun u => u.records i = none)
        (fun u j item errs hu => ?_) (fun u j errs _ hu => ?_) (fun u j f _ hu => ?_) h _ _) _ _
      · rw [State.records_congr (State.file_captureError _ _ _ _ _), hu]
      · rw [State.records_congr (State.file_setErrors _ _ _ _), hu]
      · rw [State.records_damage, hu, ite_self]
    · exact h

/-- The first channel bound for a file stays the first as a channel bound for another slot is ended (R65). -/
theorem State.boundTo_resetChannel {s : State} {d : ChannelId} {b : Binding} (hb : (s.chan d).binding = some b)
    {i : SlotId} (h : b.handle.slot ≠ i) : (s.resetChannel d).boundTo (s.handleOf i) = s.boundTo (s.handleOf i) := by
  have hother : ∀ ch : Channel, ch = .rest ∨ (∃ b', ch.binding = some b' ∧ b'.handle.slot = b.handle.slot) →
      (ch.binding.map (·.handle) == some (s.handleOf i)) = false := by
    rintro ch (rfl | ⟨b', hb', hslot⟩)
    · rfl
    · rw [hb', Option.map_some]
      refine beq_eq_false_iff_ne.mpr fun heq => h ?_
      rw [← hslot, Option.some.inj heq]
      rfl
  unfold State.boundTo
  refine List.find?_congr fun c _ => ?_
  by_cases hcd : c = d
  · subst hcd
    rw [hother (s.chan c) (.inr ⟨b, hb, rfl⟩)]
    rcases s.chan_resetChannel_cases c c with hsame | hrest
    · exact hother _ (.inr ⟨b, by rw [hsame, hb], rfl⟩)
    · exact hother _ (.inl hrest)
  · rcases State.chan_resetChannel hb hcd with hsame | ⟨hrest, hslot⟩
    · rw [hsame]
    · rw [hother _ (.inl hrest), hother _ (.inr hslot)]

/-- The read of a record that cannot be corrected loses it and ends the channel bound for it, DAMAGED (R64, R180). -/
theorem State.readFile_loses {s : State} {i : SlotId} {f : FileRec} {c : ChannelId} {b : Binding}
    (hf : s.file i = some f) (hrs : f.records.isSome = true) (h : ∃ e ∈ (s.slot i).errors, e.multiple = true)
    (hc : s.boundTo (s.handleOf i) = some c) (hb : (s.chan c).binding = some b) (item : CaptureItem) :
    (s.readFile item i).records i = none ∧
      ∀ q, s.portOf c = some q → endFrame b .damaged ∈ ((s.readFile item i).port q).tx := by
  obtain ⟨-, -, hdamaged⟩ := s.readFile_cases item i hf
  rw [hdamaged hrs h, State.records_damage, if_pos rfl]
  refine ⟨rfl, fun q hq => ?_⟩
  have hkept := State.Kept.captureError s i item (s.slot i).errors
  have hchans := State.captureError_chans s i item (s.slot i).errors
  generalize s.captureError i item (s.slot i).errors = u at *
  have hbound : u.boundTo (u.handleOf i) = some c := by rw [hkept.handleOf, State.boundTo_congr hchans, hc]
  have hub : ((u.lost i f).chan c).binding = some b := (congrArg _ (State.chan_congr hchans c)).trans hb
  have huq : (u.lost i f).portOf c = some q := (hkept.portOf c).trans hq
  rw [State.damage_bound f hbound]
  exact (State.tx_recompute _ _ _).subset (State.endFrame_mem_engineEnd hub huq .damaged)

/-- A file whose record cannot be corrected, with a channel bound for it, is lost by a cell reset, and the first channel
bound for it ended DAMAGED (R64, R65). -/
theorem State.resetChannels_lose {cs : List ChannelId} {s : State} {i : SlotId} {f : FileRec} {c : ChannelId}
    {b : Binding} (hmem : c ∈ cs) (hf : s.file i = some f) (hrs : f.records.isSome = true)
    (h : ∃ e ∈ (s.slot i).errors, e.multiple = true) (hc : s.boundTo (s.handleOf i) = some c)
    (hb : (s.chan c).binding = some b) : (cs.foldl State.resetChannel s).records i = none ∧
      ∀ q, s.portOf c = some q → endFrame b .damaged ∈ ((cs.foldl State.resetChannel s).port q).tx := by
  induction cs generalizing s with
  | nil => exact absurd hmem List.not_mem_nil
  | cons d cs ih =>
    cases hd : (s.chan d).binding with
    | none =>
      have hne : c ≠ d := by
        rintro rfl
        rw [hb] at hd
        cases hd
      rw [List.foldl_cons, State.resetChannel_unbound hd]
      exact ih ((List.mem_cons.mp hmem).resolve_left hne) hf h hc hb
    | some b' =>
      by_cases hslot : b'.handle.slot = i
      · obtain ⟨hlost, htx⟩ := State.readFile_loses hf hrs h hc hb (.request .cellReset)
        have hreset : s.resetChannel d = (s.readFile (.request .cellReset) i).engineEnd d .reset := by
          unfold State.resetChannel
          rw [hd, ← hslot]
        have hend := (State.Kept.engineEnd (s.readFile (.request .cellReset) i) d .reset).trans
          (State.Kept.resetChannels cs _)
        rw [List.foldl_cons, hreset]
        exact ⟨State.records_resetChannels cs (State.records_engineEnd_of_lost hlost d .reset),
          fun q hq => (hend.grew q).tx.subset (htx q hq)⟩
      · have hne : c ≠ d := by
          rintro rfl
          rw [hb] at hd
          obtain rfl := Option.some.inj hd
          obtain ⟨b₁, hb₁, hhandle⟩ := State.boundTo_some hc
          rw [hb] at hb₁
          obtain rfl := Option.some.inj hb₁
          exact hslot (congrArg Handle.slot hhandle)
        have hsame : (s.resetChannel d).slot i = s.slot i := State.slot_resetChannel fun b₁ hb₁ => by
          rwa [← Option.some.inj (hd.symm.trans hb₁)]
        have hfile : (s.resetChannel d).file i = s.file i := congrArg Slot.file hsame
        have hchan : (s.resetChannel d).chan c = s.chan c := by
          refine (State.chan_resetChannel hd hne).resolve_right ?_
          rintro ⟨-, b₁, hb₁, hslot₁⟩
          obtain ⟨b₂, hb₂, hhandle⟩ := State.boundTo_some hc
          rw [hb₁] at hb₂
          rw [Option.some.inj hb₂, hhandle] at hslot₁
          exact hslot hslot₁.symm
        have hkept := State.Kept.resetChannel s d
        obtain ⟨hlost, htx⟩ := ih ((List.mem_cons.mp hmem).resolve_left hne) (hfile.trans hf) (by rwa [hsame])
          (by rw [hkept.handleOf, State.boundTo_resetChannel hd hslot, hc]) (by rw [hchan, hb])
        exact ⟨hlost, fun q hq => htx q ((hkept.portOf c).trans hq)⟩

/-! ### The state after CELL RESET's answer (R163, R171) -/

/-- Step 1 of a cell reset drops what ports 1 to 7 hold (R171). -/
theorem State.port_dropHeld (s : State) (q : PortId) :
    s.dropHeld.port q = if q = 0 then s.port q else { s.port q with held := none } := by
  simp [State.dropHeld, State.port]

/-- A request's answer handed, and the other requests held at ports 1 to 7 dropped (R163, R171). -/
def State.answeredReset (s : State) (p : PortId) (tag : Byte) : State :=
  ((s.granting p).answer p tag .done []).dropHeld

section
variable (s : State) (p : PortId) (tag : Byte)

/-- The answer of CELL RESET goes to the port that asked, and the holds end: but port 0's, where it did not ask (R163,
R171). -/
theorem State.port_answeredReset (q : PortId) :
    (s.answeredReset p tag).port q = { s.port q with
      tx := if p = q then (s.port q).tx ++ [⟨.answer, tag, 0, []⟩] else (s.port q).tx
      held := if p = q ∨ q ≠ 0 then none else (s.port q).held } := by
  have hanswer : ((s.granting p).answer p tag .done []).port q = _ := State.port_answer _ p tag .done [] q
  unfold State.answeredReset
  rw [State.port_dropHeld]
  by_cases hp : p = q
  · subst hp
    rw [hanswer, if_pos rfl, if_pos rfl, if_pos (Or.inl rfl : p = p ∨ p ≠ 0)]
    split <;> rfl
  · rw [hanswer, if_neg hp, if_neg hp]
    by_cases h0 : q = 0
    · rw [if_pos h0, if_neg fun h => h.elim hp (absurd h0)]
      rfl
    · rw [if_neg h0, if_pos (.inr h0)]
      rfl

/-- CELL RESET's answer leaves what is no port's and not the arbiter's. -/
theorem State.blocks_answeredReset : (s.answeredReset p tag).engine = s.engine ∧ (s.answeredReset p tag).store = s.store ∧
    (s.answeredReset p tag).chans = s.chans ∧ (s.answeredReset p tag).audio = s.audio ∧
    (s.answeredReset p tag).router = s.router ∧ (s.answeredReset p tag).arbiter.scheme = s.arbiter.scheme ∧
    (s.answeredReset p tag).arbiter.priorities = s.arbiter.priorities :=
  ⟨rfl, rfl, rfl, rfl, rfl, rfl, rfl⟩

/-- CELL RESET's answer leaves the ports' roles. -/
theorem State.portOf_answeredReset (c : ChannelId) : (s.answeredReset p tag).portOf c = s.portOf c := by
  unfold State.portOf
  refine congrArg (allPorts.find? ·) (funext fun q => ?_)
  rw [State.port_answeredReset]

/-- CELL RESET answers the port that asked. -/
theorem State.tx_answeredReset : ((s.answeredReset p tag).port p).tx = (s.port p).tx ++ [⟨.answer, tag, 0, []⟩] := by
  rw [State.port_answeredReset, if_pos rfl]

/-- CELL RESET's answer takes nothing from a port's transmit side. -/
theorem State.grows_answeredReset (q : PortId) : (s.port q).tx <+: ((s.answeredReset p tag).port q).tx := by
  rw [State.port_answeredReset]
  by_cases hp : p = q
  · exact (List.prefix_append _ _).trans (by rw [if_pos hp])
  · exact List.prefix_rfl.trans (by rw [if_neg hp])

end

/-- A cell reset leaves every channel at rest (R68, R171). -/
theorem State.atRest_settleReset (s : State) (c : ChannelId) :
    s.settleReset.chan c = .rest ∧ s.settleReset.analyzerAtRest c := by
  cases c <;> exact ⟨rfl, rfl⟩

/-- CELL RESET, granted: the answer, then the channels' ends and the settling (R171). -/
theorem exec_cellReset {s₀ : State} {p : PortId} {h : Held} (hg : s₀.grants .cellReset p h) (ds : Disturbances) :
    exec (.cellReset ds) s₀ =
      .next (allChannels.foldl State.resetChannel ((s₀.disturb ds).answeredReset p h.tag)).settleReset := by
  obtain ⟨hreset, hgrant, hrequest⟩ := hg
  refine congrArg Host.Outcome.next ((State.unlessReset_high hreset _).trans ?_)
  rw [hgrant]
  exact if_pos hrequest

/-- Settles O12: what the ends of the channels keep, slot by slot and port by port, and what they make of the file each is
bound for. -/
theorem cellResetEndsTheWorkAndKeepsTheRecords : Obligations.CellResetEndsTheWorkAndKeepsTheRecords := by
  unfold Obligations.CellResetEndsTheWorkAndKeepsTheRecords
  intro ds s₀ p h hg s
  have hport := s.port_answeredReset p h.tag
  have hrole := s.portOf_answeredReset p h.tag
  have htx := s.tx_answeredReset p h.tag
  have hgrows := s.grows_answeredReset p h.tag
  have hexec := exec_cellReset hg ds
  obtain ⟨hengine, hstore, hchans, haudio, hrouter, hscheme, hpriorities⟩ := s.blocks_answeredReset p h.tag
  change exec (.cellReset ds) s₀ = .next (allChannels.foldl State.resetChannel (s.answeredReset p h.tag)).settleReset
    at hexec
  generalize s.answeredReset p h.tag = v at *
  have hslot : ∀ i, v.slot i = s.slot i := fun i => by rw [State.slot, hengine, State.slot]
  have hfile : ∀ i, v.file i = s.file i := fun i => congrArg Slot.file (hslot i)
  have hhandle : ∀ i, v.handleOf i = s.handleOf i := fun i => State.handleOf_congr (congrArg Slot.gen (hslot i))
  have hchan : ∀ c, v.chan c = s.chan c := State.chan_congr hchans
  have hbound : ∀ x, v.boundTo x = s.boundTo x := State.boundTo_congr hchans
  have hkept := State.Kept.resetChannels allChannels v
  have hbanks := congrArg Store.banks (hkept.store.trans hstore)
  have hwindows := congrArg Store.windows (hkept.store.trans hstore)
  have hfallback := congrArg Store.fallback (hkept.store.trans hstore)
  generalize hr : allChannels.foldl State.resetChannel v = r at *
  refine ⟨_, hexec, State.atRest_settleReset _, rfl, rfl, rfl, fun q hq => ?held, ?asked, fun hp => ?host, fun q => ?port,
    ?answer, hkept.scheme.trans hscheme, hkept.priorities.trans hpriorities, hkept.audio.trans haudio, hbanks, hwindows,
    hfallback, hkept.index.trans (congrArg Engine.index hengine), hkept.lineOrder.trans (congrArg Engine.lineOrder hengine),
    hkept.admissions.trans (congrArg Engine.admissions hengine),
    hkept.strayEnabled.trans (congrArg Engine.strayEnabled hengine),
    fun i => ⟨(hkept.gen i).trans (congrArg Slot.gen (hslot i)), (hkept.label i).trans (congrArg _ (hfile i))⟩,
    fun i hi => ?slot, fun c b f rs hb hf hrs => ⟨fun hread => ⟨?ended, fun q hq => ?reset⟩, fun hlost hfirst => ?damaged⟩,
    hkept.multi.trans (congrArg Router.multi hrouter), fun k => (hkept.route k).trans (congrArg (·.route k) hrouter)⟩
  case held => exact (hkept.grew q).held.trans (by rw [hport, if_pos (.inr hq)])
  case asked => exact (hkept.grew p).held.trans (by rw [hport, if_pos (.inl rfl)])
  case host => exact (hkept.grew 0).held.trans (by rw [hport, if_neg (by simpa using hp)])
  case port =>
    have hgrew := hkept.grew q
    exact ⟨hgrew.role.trans (by rw [hport]), hgrew.rx.trans (by rw [hport]), hgrew.garbled.trans (by rw [hport]),
      fun hoverrun => hgrew.overrun (by rw [hport]; exact hoverrun), (hgrows q).trans hgrew.tx⟩
  case answer => exact htx ▸ (hkept.grew p).tx
  case slot =>
    refine Eq.trans ?_ (hslot i)
    rw [← hr]
    exact State.slot_resetChannels allChannels fun c b hb => hi c b (hchan c ▸ hb)
  case ended =>
    obtain ⟨hcurrent, hlive⟩ := State.fileAt_eq.mp hf
    have hself : v.handleOf b.handle.slot = b.handle := by
      rw [hhandle, State.handleOf, hcurrent]
    have hbank : v.bank f.bank = s.bank f.bank := State.bank_congr hstore f.bank
    obtain ⟨rs', hstaged, -, hunbound, hcut⟩ := State.staged_resetChannels allChannels (s := v) (i := b.handle.slot)
      (by rwa [State.readable, hslot]) (State.staged_eq_some.mpr ⟨f, (hfile _).trans hlive, hrs, rfl⟩)
    rw [hr] at hstaged
    obtain ⟨f', hf', hrs', -⟩ := State.staged_eq_some.mp hstaged
    rw [hself] at hunbound hcut
    refine ⟨f', rs', hf', hrs', ?_, fun u hu => hunbound u fun d => (hchan d).symm ▸ hu d⟩
    exact (hcut c (mem_allChannels c) b.stage ((congrArg _ (hchan c)).trans hb)).trans (by rw [hbank]; rfl)
  case reset =>
    have hmem := State.endFrame_mem_resetChannels (mem_allChannels c) ((congrArg _ (hchan c)).trans hb)
      ((hrole c).trans hq) (by rwa [State.readable, hslot])
    rw [hr] at hmem
    exact hmem
  case damaged =>
    obtain ⟨hcurrent, hlive⟩ := State.fileAt_eq.mp hf
    have hself : v.handleOf b.handle.slot = b.handle := by
      rw [hhandle, State.handleOf, hcurrent]
    obtain ⟨hrecords, htxs⟩ := State.resetChannels_lose (mem_allChannels c) ((hfile _).trans hlive)
      (by rw [hrs]; rfl) (by rwa [hslot]) (by rw [hself, hbound, hfirst]) ((congrArg _ (hchan c)).trans hb)
    rw [hr] at hrecords htxs
    have hsome := hkept.live b.handle.slot
    rw [hfile, hlive, Option.isSome_some] at hsome
    obtain ⟨f', hf'⟩ := Option.isSome_iff_exists.mp hsome
    have hnone : f'.records = none := by rwa [State.records, hf'] at hrecords
    exact ⟨(congrArg _ hf').trans (congrArg some hnone), fun q hq => htxs q ((hrole c).trans hq)⟩

end Sys2Proof.Machine
end

section
/-! The run-in monitor: a reading taken (R77 to R85) and the timers of a step (R72 to R76). -/

namespace Sys2Proof.Machine

/-! ### A reading taken (R70, R77 to R82) -/

/-- A RUNNING run-in channel takes the oldest reading of its queue (R70). -/
theorem exec_runinReadingTaken {s : State} {c : RunInCh} {r : RunInReading} {rest : List RunInReading}
    (hreset : s.resetLow = false) (hrun : (s.chan c.id).state = .running) (hqueue : (s.monitor c).queue = r :: rest) :
    exec (.runinReadingTaken c) s =
      .next (s.afterMonitor c (Monitor.take { s.monitor c with queue := rest } (s.bankOf c.id).contents r)) := by
  refine congrArg Host.Outcome.next ((State.unlessReset_high hreset _).trans ?_)
  unfold State.takeRunIn
  rw [hrun, hqueue]

/-- A reading that ends nothing leaves the monitor it leaves. -/
theorem State.afterMonitor_goes (s : State) (c : RunInCh) {x : Monitor × Option StageEnd} (h : x.2 = none) :
    s.afterMonitor c x = s.setMonitor c x.1 := by
  unfold State.afterMonitor
  rw [h]

/-- A reading that ends the stage leaves its monitor first. -/
theorem State.afterMonitor_ends (s : State) (c : RunInCh) {x : Monitor × Option StageEnd} {e : StageEnd}
    (h : x.2 = some e) : s.afterMonitor c x = (s.setMonitor c x.1).endStage c.id e := by
  unfold State.afterMonitor
  rw [h]

/-- An oil temperature meets a warm threshold when it is valid, the threshold not 0, and reached (R83). -/
theorem meetsWarm_eq (warm : Nat) (oil : Option Int) :
    meetsWarm warm oil = oil.any fun v => warm != 0 && (warm : Int) ≤ v := by
  cases oil <;> rfl

section
variable {m : Monitor} {k : Contents} {r : RunInReading}

/-- A reading of another step in the open settle window is ignored (R78). -/
theorem Monitor.take_ignored (htag : r.tag ≠ m.step) (hopen : m.windowOpen = true) : m.take k r = (m, none) :=
  (if_neg htag).trans (if_pos hopen)

/-- A reading of another step after the settle window counts as a mismatch (R78). -/
theorem Monitor.take_mismatch (htag : r.tag ≠ m.step) (hshut : m.windowOpen = false) :
    m.take k r = ({ m with mismatch := m.mismatch + 1 },
      if k.persistence ≤ m.mismatch + 1 then some (cutShort .stepLost) else none) :=
  (if_neg htag).trans (if_neg (by simp [hshut]))

/-- A reading of the current step with an invalid counter at the limit ends the stage SENSOR (R80, R82). -/
theorem Monitor.take_sensor (htag : r.tag = m.step)
    (h : anyReached (m.countValues r.values).invalid k.invalidLimit = true) :
    m.take k r = (m.countValues r.values, some (cutShort .sensor)) :=
  (if_pos htag).trans (if_pos h)

/-- The monitor of a reading of the current step, with the warm-up seen by it (R82 step 5, R83). -/
def Monitor.warmed (m : Monitor) (k : Contents) (r : RunInReading) : Monitor :=
  { m.countValues r.values with
    warm := m.warm || r.values.oil.any fun v => (k.step m.step).warm != 0 && ((k.step m.step).warm : Int) ≤ v }

/-- The warm-up seen, as the reading's treatment writes it (R83). -/
theorem Monitor.warmed_eq (m : Monitor) (k : Contents) (r : RunInReading) : m.warmed k r =
    { m.countValues r.values with warm := m.warm || meetsWarm (k.step m.step).warm r.values.oil } := by
  rw [meetsWarm_eq]
  rfl

/-- A reading of the current step in the open settle window is not checked (R82 step 6). -/
theorem Monitor.take_settle (htag : r.tag = m.step)
    (h : anyReached (m.countValues r.values).invalid k.invalidLimit = false) (hopen : m.windowOpen = true) :
    m.take k r = (m.warmed k r, none) :=
  m.warmed_eq k r ▸ (if_pos htag).trans ((if_neg (by simp [h])).trans (if_pos hopen))

/-- A reading of the current step after the settle window is checked (R82 steps 7 to 10). -/
theorem Monitor.take_checked (htag : r.tag = m.step)
    (h : anyReached (m.countValues r.values).invalid k.invalidLimit = false) (hshut : m.windowOpen = false) :
    m.take k r = (m.warmed k r).check (k.step m.step) k.persistence (usedValues r.values m.held) :=
  m.warmed_eq k r ▸ (if_pos htag).trans ((if_neg (by simp [h])).trans (if_neg (by simp [hshut])))

end

/-! ### The breaches of a checked reading (R81, R84, R85) -/

/-- A peak after a value is the larger of the two, or the value where there was none (R84). -/
theorem peakNat_eq (peak : Option Nat) (v : Nat) :
    peakNat peak v = some (match peak with | some x => max x v | none => v) := by
  cases peak with
  | none => exact congrArg some (Nat.max_self v)
  | some x => rfl

/-- A signed peak after a value is the larger of the two, or the value where there was none (R84). -/
theorem peakInt_eq (peak : Option Int) (v : Int) :
    peakInt peak v = some (match peak with | some x => max x v | none => v) := by
  cases peak with
  | none => exact congrArg some (max_self v)
  | some x => rfl

/-- A breach counter counts a breach, and restarts at a value without one (R81). -/
theorem breachAfter_of_iff {b : Bool} {p : Prop} [Decidable p] (h : b = true ↔ p) (n : Nat) :
    breachAfter b n = if p then n + 1 else 0 := by
  unfold breachAfter
  simp only [h]

/-- The first breach counter at the persistence, in the order SPEED, TORQUE, OIL_TEMP, BEARING_TEMP, is the cause (R81,
R82 step 10). -/
theorem breachCause_cases (b : Breaches) (n : Nat) :
    (n ≤ b.speed → breachCause b n = some .speed) ∧
    (b.speed < n → n ≤ b.torque → breachCause b n = some .torque) ∧
    (b.speed < n → b.torque < n → n ≤ b.oil → breachCause b n = some .oilTemp) ∧
    (b.speed < n → b.torque < n → b.oil < n → n ≤ b.bearing → breachCause b n = some .bearingTemp) ∧
    (b.speed < n → b.torque < n → b.oil < n → b.bearing < n → breachCause b n = none) := by
  unfold breachCause
  refine ⟨fun h => if_pos h, fun h h₁ => ?_, fun h h₁ h₂ => ?_, fun h h₁ h₂ h₃ => ?_, fun h h₁ h₂ h₃ => ?_⟩
  · rw [if_neg (Nat.not_le.mpr h), if_pos h₁]
  · rw [if_neg (Nat.not_le.mpr h), if_neg (Nat.not_le.mpr h₁), if_pos h₂]
  · rw [if_neg (Nat.not_le.mpr h), if_neg (Nat.not_le.mpr h₁), if_neg (Nat.not_le.mpr h₂), if_pos h₃]
  · rw [if_neg (Nat.not_le.mpr h), if_neg (Nat.not_le.mpr h₁), if_neg (Nat.not_le.mpr h₂), if_neg (Nat.not_le.mpr h₃)]

/-- The end of a checked reading is the first breach at the persistence, FAIL, with the peaks (R82 step 10, R85). -/
theorem Monitor.check_ends {m : Monitor} {f : StepFields} {n : Nat} {v : Five Int} {x : Option Cause}
    (h : breachCause (m.check f n v).1.breach n = x) : (m.check f n v).2 =
      x.map fun c => ⟨.fail, c, some ((m.check f n v).1.summary (m.step - 1))⟩ := by
  rw [← h]
  rfl

/-- Settles O41: the paths of a reading, and the counters and peaks of a checked one. -/
theorem aRunInReadingIsSortedCountedAndJudged : Obligations.ARunInReadingIsSortedCountedAndJudged := by
  unfold Obligations.ARunInReadingIsSortedCountedAndJudged
  refine ⟨fun s c r rest hreset hrun hqueue => ?_, fun m f n v => ?_⟩
  · intro k m
    have hexec : exec (.runinReadingTaken c) s = .next (s.afterMonitor c (m.take k r)) :=
      exec_runinReadingTaken hreset hrun hqueue
    clear_value m k
    refine ⟨fun htag hopen => ?_, fun htag hshut => ⟨fun hfew => ?_, fun hmany => ?_⟩, fun htag => ⟨fun hbad => ?_,
      fun hgood => ?_⟩⟩
    · rw [hexec, Monitor.take_ignored htag hopen]
      rfl
    · rw [hexec, Monitor.take_mismatch htag hshut, if_neg (Nat.not_le.mpr hfew)]
      rfl
    · rw [hexec, Monitor.take_mismatch htag hshut, if_pos hmany]
      rfl
    · rw [hexec, Monitor.take_sensor htag ((anyReached_iff _ _).mpr hbad)]
      rfl
    · have hnone : anyReached (m.countValues r.values).invalid k.invalidLimit = false := by
        rw [Bool.eq_false_iff, ne_eq, anyReached_iff]
        rintro ⟨x, hx, hle⟩
        exact Nat.not_lt.mpr hle (hgood x hx)
      refine ⟨fun hopen => ?_, fun hshut => ⟨fun hgoes => ?_, fun e he => ?_⟩⟩
      · rw [hexec, Monitor.take_settle htag hnone hopen]
        rfl
      · rw [hexec, Monitor.take_checked htag hnone hshut]
        exact congrArg _ (State.afterMonitor_goes s c hgoes)
      · rw [hexec, Monitor.take_checked htag hnone hshut]
        exact congrArg _ (State.afterMonitor_ends s c he)
  · obtain ⟨hspeed, htorque, hoil, hbearing, hnone⟩ := breachCause_cases (m.check f n v).1.breach n
    refine ⟨rfl, peakNat_eq _ _, peakInt_eq _ _, peakInt_eq _ _, breachAfter_of_iff (by simp) _,
      breachAfter_of_iff (by simp) _, breachAfter_of_iff (by simp) _, breachAfter_of_iff (by simp) _,
      fun h => Monitor.check_ends (hspeed h), fun h h₁ => Monitor.check_ends (htorque h h₁),
      fun h h₁ h₂ => Monitor.check_ends (hoil h h₁ h₂), fun h h₁ h₂ h₃ => Monitor.check_ends (hbearing h h₁ h₂ h₃),
      fun h h₁ h₂ h₃ => Monitor.check_ends (hnone h h₁ h₂ h₃), rfl⟩

/-! ### The timers of a step (R72 to R76) -/

section
variable {s : State} {c : RunInCh} (hreset : s.resetLow = false) (hrun : (s.chan c.id).state = .running)
include hreset hrun

/-- The settle timer of a RUNNING channel closes the settle window (R73). -/
theorem exec_settleTimerExpiry (h : (s.monitor c).settleTimer.isSome = true) : exec (.settleTimerExpiry c) s =
    .next (s.setMonitor c { s.monitor c with settleTimer := none, windowOpen := false }) :=
  congrArg Host.Outcome.next ((State.unlessReset_high hreset _).trans (if_pos ⟨hrun, h⟩))

/-- The step timer of a RUNNING channel judges the step (R74). -/
theorem exec_stepTimerExpiry (h : (s.monitor c).stepTimer.isSome = true) :
    exec (.stepTimerExpiry c) s = .next (s.stepExpired c) :=
  congrArg Host.Outcome.next ((State.unlessReset_high hreset _).trans (if_pos ⟨hrun, h⟩))

end

section
variable {m : Monitor} {f : StepFields}

/-- A step without a checked reading ends the stage SENSOR (R74, check 1). -/
theorem Monitor.judgeStep_unchecked (h : m.checked = false) : m.judgeStep f = some .sensor :=
  if_pos (by simp [h])

/-- A step whose warm-up was not seen ends the stage EQUIPMENT (R74, check 2). -/
theorem Monitor.judgeStep_cold (h : m.checked = true) (hwarm : f.warm ≠ 0) (hcold : m.warm = false) :
    m.judgeStep f = some .equipment :=
  (if_neg (by simp [h])).trans (if_pos ⟨hwarm, by simp [hcold]⟩)

/-- A checked step whose warm-up was seen, or not asked for, has done (R74). -/
theorem Monitor.judgeStep_done (h : m.checked = true) (hwarm : f.warm = 0 ∨ m.warm = true) : m.judgeStep f = none :=
  (if_neg (by simp [h])).trans (if_neg fun hbad => hwarm.elim hbad.1 fun hseen => by simp [hseen] at hbad)

end

section
variable {s : State} {c : RunInCh}

/-- A judgement that ends the stage (R74). -/
theorem State.stepExpired_ends {cause : Cause}
    (h : (s.monitor c).judgeStep ((s.bankOf c.id).contents.step (s.monitor c).step) = some cause) :
    s.stepExpired c = s.endStage c.id (cutShort cause) := by
  unfold State.stepExpired
  dsimp only
  rw [h]

variable (h : (s.monitor c).judgeStep ((s.bankOf c.id).contents.step (s.monitor c).step) = none)
include h

/-- The last step done, the stage ends PASS (R76). -/
theorem State.stepExpired_last (hlast : (s.bankOf c.id).stepCount ≤ (s.monitor c).step) : s.stepExpired c =
    s.endStage c.id ⟨.pass, .none, some ((s.monitor c).summary (s.bankOf c.id).stepCount)⟩ := by
  unfold State.stepExpired
  dsimp only
  rw [h]
  exact if_neg (Nat.not_lt.mpr hlast)

/-- An earlier step done, the next is entered and sent (R75, R76). -/
theorem State.stepExpired_next (hnext : (s.monitor c).step < (s.bankOf c.id).stepCount) : s.stepExpired c =
    (s.setMonitor c ((s.monitor c).enterStep ((s.monitor c).step + 1)
      ((s.bankOf c.id).contents.step ((s.monitor c).step + 1)))).directStep c ((s.monitor c).step + 1)
      ((s.bankOf c.id).contents.step ((s.monitor c).step + 1)) := by
  unfold State.stepExpired
  dsimp only
  rw [h]
  exact if_pos hnext

end

/-- The STEP directive of a bound channel names its handle and stage (R75, R177). -/
theorem State.directStep_bound {s : State} {c : RunInCh} {b : Binding} (hb : (s.chan c.id).binding = some b) (k : Nat)
    (f : StepFields) :
    s.directStep c k f = s.direct c.id .step (b.handle.bytes ++ [b.stage.byte] ++ bytesOf 1 k ++ f.bytes) := by
  unfold State.directStep
  rw [hb]

/-- Settles O42: the settle timer, the judgement of a step and the next step. -/
theorem stepsFollowTheirTimers : Obligations.StepsFollowTheirTimers := by
  unfold Obligations.StepsFollowTheirTimers
  intro s c b hreset hrun hb
  refine ⟨exec_settleTimerExpiry hreset hrun, fun htimer => ?_⟩
  have hexec := exec_stepTimerExpiry hreset hrun htimer
  refine ⟨fun hno => ?_, fun hchecked hwarm hcold => ?_, fun hchecked hwarm => ⟨fun hlast => ?_, fun hnext => ?_⟩⟩
  · exact hexec.trans (congrArg _ (State.stepExpired_ends (Monitor.judgeStep_unchecked hno)))
  · exact hexec.trans (congrArg _ (State.stepExpired_ends (Monitor.judgeStep_cold hchecked hwarm hcold)))
  · exact hexec.trans (congrArg _ (State.stepExpired_last (Monitor.judgeStep_done hchecked hwarm) hlast))
  · refine hexec.trans (congrArg _ ((State.stepExpired_next (Monitor.judgeStep_done hchecked hwarm) hnext).trans ?_))
    refine (State.directStep_bound (b := b) (by simpa using hb) _ _).trans ?_
    simp only [Monitor.enterStep, decide_not, bne, beq_eq_decide]

end Sys2Proof.Machine
end

section
/-! The noise input section: the halves of the word select (R90 to R94), frames, markers and edges (R95 to R99). -/

namespace Sys2Proof.Machine

/-! ### The half that ends (R90, R91; entries 10, 11) -/

/-- A half is of MASTER's length: 32 bit clocks, where the 4120 drives the clocks (R90). -/
theorem wholeHalf_iff {mode : AudioMode} (n : Nat) :
    (mode == .slave || n == 32) = true ↔ (mode = .master → n = 32) := by
  cases mode <;> simp

section
variable {i : InputSection} {cfg : AudioConfig} {level : AwsLevel} {bits : List Bool}

/-- The half in progress at START arises at any level, cut short or not (entries 10, 11). -/
theorem InputSection.arises_before (h : i.place = .before) :
    i.arises cfg level bits = true ↔ (cfg.mode = .master → bits.length ≤ 32) := by
  unfold InputSection.arises
  rw [h]
  cases cfg.mode <;> simp

/-- A left half arises at the left level, whole (R90, R91). -/
theorem InputSection.arises_left (h : i.place = .left) : i.arises cfg level bits = true ↔
    level = cfg.leftLevel ∧ (cfg.mode = .master → bits.length = 32) := by
  unfold InputSection.arises
  rw [h]
  dsimp only
  rw [Bool.and_eq_true, beq_iff_eq, wholeHalf_iff]

/-- A right half arises at the other level, whole (R90, R91). -/
theorem InputSection.arises_right (h : i.place = .restRight ∨ i.place = .right) : i.arises cfg level bits = true ↔
    level ≠ cfg.leftLevel ∧ (cfg.mode = .master → bits.length = 32) := by
  unfold InputSection.arises
  obtain h | h := h <;> rw [h] <;> dsimp only <;> rw [Bool.and_eq_true, bne_iff_ne, wholeHalf_iff]

/-- A half that cannot be the one in progress takes nothing (entries 10, 11). -/
theorem InputSection.half_stray (h : ¬i.arises cfg level bits = true) : i.half cfg level bits = some i :=
  if_pos (by simp [h])

/-- No half outside the configuration arises: of the wrong level, not whole, or longer than MASTER's. -/
theorem InputSection.not_arises
    (h : (i.place = .left ∧ ¬level = cfg.leftLevel) ∨
      ((i.place = .restRight ∨ i.place = .right) ∧ level = cfg.leftLevel) ∨
      (i.place ≠ .before ∧ ¬(cfg.mode = .master → bits.length = 32)) ∨ (cfg.mode = .master ∧ 32 < bits.length)) :
    ¬i.arises cfg level bits = true := by
  have hlong : cfg.mode = .master ∧ 32 < bits.length → ¬(cfg.mode = .master → bits.length = 32) :=
    fun ⟨hmode, hlt⟩ hwhole => absurd (hwhole hmode) (Nat.ne_of_gt hlt)
  cases hplace : i.place with
  | before =>
    rw [InputSection.arises_before hplace]
    simp only [hplace, reduceCtorEq, false_and, or_self, ne_eq, not_true, false_or] at h
    exact fun hshort => absurd (hshort h.1) (Nat.not_le.mpr h.2)
  | left =>
    rw [InputSection.arises_left hplace]
    simp only [hplace, reduceCtorEq, or_self, false_and, true_and, false_or, ne_eq, not_false_eq_true] at h
    exact fun ⟨hlevel, hwhole⟩ => h.elim (absurd hlevel) fun h => h.elim (absurd hwhole) fun h => hlong h hwhole
  | restRight | right =>
    rw [InputSection.arises_right (by simp [hplace])]
    simp only [hplace, reduceCtorEq, or_true, true_or, false_and, true_and, false_or, ne_eq, not_false_eq_true] at h
    exact fun ⟨hlevel, hwhole⟩ => h.elim (absurd · hlevel) fun h => h.elim (absurd hwhole) fun h => hlong h hwhole

/-- The half in progress at START is neither read nor counted (R91; entry 10). -/
theorem InputSection.half_before (h : i.place = .before) (harises : i.arises cfg level bits = true) :
    i.half cfg level bits = some { i with place := if level = cfg.leftLevel then .restRight else .left } := by
  refine (if_neg (by simp [harises])).trans ?_
  rw [h]
  simp

/-- A left half is examined, and its word taken (R90 to R92). -/
theorem InputSection.half_left (h : i.place = .left) (harises : i.arises cfg level bits = true) :
    i.half cfg level bits = { i with place := .right }.examine cfg bits fun i v => i.endLeft cfg v := by
  refine (if_neg (by simp [harises])).trans ?_
  rw [h]

/-- In MONO no right half is examined (R91, R92). -/
theorem InputSection.half_mono (h : i.place = .restRight ∨ i.place = .right)
    (harises : i.arises cfg level bits = true) (hmono : cfg.framing = .mono) :
    i.half cfg level bits = some { i with place := .left } := by
  refine (if_neg (by simp [harises])).trans ?_
  rw [hmono]
  obtain h | h := h <;> rw [h]

/-- The right half of the period in progress at START is counted for the width and not read (R92; entry 10). -/
theorem InputSection.half_restRight (h : i.place = .restRight) (harises : i.arises cfg level bits = true)
    (hstereo : cfg.framing = .stereo) :
    i.half cfg level bits = { i with place := .left }.examine cfg bits fun i _ => i := by
  refine (if_neg (by simp [harises])).trans ?_
  rw [h, hstereo]

/-- The right half of a later STEREO period is examined, and its word taken (R90 to R92). -/
theorem InputSection.half_right (h : i.place = .right) (harises : i.arises cfg level bits = true)
    (hstereo : cfg.framing = .stereo) :
    i.half cfg level bits = { i with place := .left }.examine cfg bits fun i v => i.endRight cfg v := by
  refine (if_neg (by simp [harises])).trans ?_
  rw [h, hstereo]

variable {go : InputSection → Int → InputSection}

/-- A half that yields no word is a format fault (R92). -/
theorem InputSection.examine_fault (h : halfWord cfg i.detected bits = .fault) : i.examine cfg bits go = none := by
  unfold InputSection.examine
  rw [h]

/-- A half that yields its word sets the detected width and is taken (R90, R92). -/
theorem InputSection.examine_word {v : Int} (h : halfWord cfg i.detected bits = .word v) :
    i.examine cfg bits go = some (go { i with detected := detectedAfter cfg i.detected bits } v) := by
  unfold InputSection.examine
  rw [h]

/-- In MONO the left word is the frame (R94). -/
theorem InputSection.endLeft_mono (h : cfg.framing = .mono) (v : Int) : i.endLeft cfg v = i.frame v := by
  unfold InputSection.endLeft
  rw [h]

/-- In STEREO the left word waits (R94). -/
theorem InputSection.endLeft_stereo (h : cfg.framing = .stereo) (v : Int) :
    i.endLeft cfg v = { i with left := some v } := by
  unfold InputSection.endLeft
  rw [h]

/-- A right word without its left word completes no frame (R94). -/
theorem InputSection.endRight_none (h : i.left = none) (v : Int) : i.endRight cfg v = i := by
  unfold InputSection.endRight
  rw [h]

/-- A right word completes the frame of the left word that waits (R94). -/
theorem InputSection.endRight_some {l : Int} (h : i.left = some l) (v : Int) :
    i.endRight cfg v = { i with left := none }.frame (stereoSample cfg.source l v) := by
  unfold InputSection.endRight
  rw [h]

end

/-! ### The end of a half (R90 to R94, R188) -/

section
variable {s : State} {level : AwsLevel} {bits : List Bool} (hreset : s.resetLow = false)
include hreset

/-- A channel that does not listen takes no half (R91). -/
theorem exec_audioHalfEnd_deaf (h : s.listening = false) : exec (.audioHalfEnd level bits) s = .next s :=
  congrArg Host.Outcome.next ((State.unlessReset_high hreset _).trans (if_neg (by simp [h])))

variable (h : s.listening = true)
include h

/-- A half that leaves the input section is taken (R90 to R92). -/
theorem exec_audioHalfEnd_takes {i : InputSection} (hhalf : s.input.half s.audio level bits = some i) :
    exec (.audioHalfEnd level bits) s = .next { s with input := i } := by
  refine congrArg Host.Outcome.next ((State.unlessReset_high hreset _).trans ((if_pos h).trans ?_))
  rw [hhalf]

/-- A format fault ends the stage FORMAT (R92). -/
theorem exec_audioHalfEnd_fault (hhalf : s.input.half s.audio level bits = none) :
    exec (.audioHalfEnd level bits) s = .next (s.endStage .n (noiseCut .format)) := by
  refine congrArg Host.Outcome.next ((State.unlessReset_high hreset _).trans ((if_pos h).trans ?_))
  rw [hhalf]

end

/-- Settles O43: the half by its place and framing, and the word it yields. -/
theorem aHalfOfTheWordSelectYieldsItsWord : Obligations.AHalfOfTheWordSelectYieldsItsWord := by
  unfold Obligations.AHalfOfTheWordSelectYieldsItsWord
  intro s level bits hreset
  refine ⟨exec_audioHalfEnd_deaf hreset, fun hlistening => ?_⟩
  have htakes : ∀ {x}, s.input.half s.audio level bits = some x →
      exec (.audioHalfEnd level bits) s = .next { s with input := x } := exec_audioHalfEnd_takes hreset hlistening
  have hfaults := exec_audioHalfEnd_fault (level := level) (bits := bits) hreset hlistening
  refine ⟨fun hplace hshort => ?before, fun hplace hlevel hwhole => ?left, fun hplace hlevel hwhole hmono => ?mono,
    fun hplace hlevel hwhole hstereo => ?stereo, fun hbad => htakes (InputSection.half_stray (InputSection.not_arises hbad))⟩
  case before =>
    have hhalf := InputSection.half_before hplace ((InputSection.arises_before (level := level) hplace).mpr hshort)
    refine ⟨fun hlevel => htakes ?_, fun hlevel => htakes ?_⟩
    · rw [hhalf, if_pos hlevel]
    · rw [hhalf, if_neg hlevel]
  case left =>
    have hhalf := InputSection.half_left hplace ((InputSection.arises_left hplace).mpr ⟨hlevel, hwhole⟩)
    refine ⟨fun hfault => hfaults (hhalf.trans (InputSection.examine_fault hfault)), fun v hword => ?_⟩
    have htaken := hhalf.trans (InputSection.examine_word hword)
    exact ⟨fun hmono => htakes (htaken.trans (congrArg some (InputSection.endLeft_mono hmono v))),
      fun hstereo => htakes (htaken.trans (congrArg some (InputSection.endLeft_stereo hstereo v)))⟩
  case mono =>
    exact htakes (InputSection.half_mono hplace ((InputSection.arises_right hplace).mpr ⟨hlevel, hwhole⟩) hmono)
  case stereo =>
    have harises := (InputSection.arises_right hplace).mpr ⟨hlevel, hwhole⟩
    let taken : InputSection :=
      { s.input with place := .left, detected := detectedAfter s.audio s.input.detected bits }
    refine ⟨fun hfault => hfaults ?_, fun v hword => ⟨fun hno => htakes ?_, fun l hright hl => htakes ?_⟩⟩
    · obtain hplace | hplace := hplace
      · exact (InputSection.half_restRight hplace harises hstereo).trans (InputSection.examine_fault hfault)
      · exact (InputSection.half_right hplace harises hstereo).trans (InputSection.examine_fault hfault)
    · obtain hplace | hplace := hplace
      · exact (InputSection.half_restRight hplace harises hstereo).trans (InputSection.examine_word hword)
      · obtain hrest | hnone := hno
        · exact absurd (hplace.symm.trans hrest) (by decide)
        · exact ((InputSection.half_right hplace harises hstereo).trans (InputSection.examine_word hword)).trans
            (congrArg some (InputSection.endRight_none (i := taken) hnone v))
    · refine ((InputSection.half_right hright harises hstereo).trans (InputSection.examine_word hword)).trans
        (congrArg some ((InputSection.endRight_some (i := taken) hl v).trans ?_))
      unfold stereoSample
      cases s.audio.source <;> rfl

/-! ### Frames, markers and edges (R95 to R99) -/

section
variable {i : InputSection}

/-- A frame before the first marker is discarded (R96). -/
theorem InputSection.frame_closed (h : i.revolutionOpen = false) (v : Int) : i.frame v = i := if_pos (by simp [h])

/-- A frame enters a FIFO that is not full, with the flags (R99). -/
theorem InputSection.frame_enters (h : i.revolutionOpen = true) (hroom : i.fifo.length < 64) (v : Int) :
    i.frame v = { i with
      fifo := i.fifo ++ [⟨v, i.markerPending, i.spoilPending⟩], markerPending := false, spoilPending := false } :=
  (if_neg (by simp [h])).trans (if_pos hroom)

/-- A frame at a full FIFO is lost; a revolution not yet opened is to be spoiled (R99). -/
theorem InputSection.frame_lost_pending (h : i.revolutionOpen = true) (hfull : 64 ≤ i.fifo.length)
    (hpending : i.markerPending = true) (v : Int) : i.frame v = { i with spoilPending := true } :=
  (if_neg (by simp [h])).trans ((if_neg (Nat.not_lt.mpr hfull)).trans (if_pos hpending))

/-- A frame at a full FIFO is lost; the newest entry spoils its revolution (R99). -/
theorem InputSection.frame_lost_open (h : i.revolutionOpen = true) (hfull : 64 ≤ i.fifo.length)
    (hpending : i.markerPending = false) (v : Int) : i.frame v = { i with fifo := spoilNewest i.fifo } :=
  (if_neg (by simp [h])).trans ((if_neg (Nat.not_lt.mpr hfull)).trans (if_neg (by simp [hpending])))

/-- The first marker opens the record of revolutions (R98). -/
theorem InputSection.marker_first (h : i.revolutionOpen = false) :
    i.marker = { i with revolutionOpen := true, markerPending := true } := if_pos (by simp [h])

/-- A marker awaits the frame that opens its revolution (R98). -/
theorem InputSection.marker_later (h : i.revolutionOpen = true) (hno : i.markerPending = false) :
    i.marker = { i with markerPending := true } := (if_neg (by simp [h])).trans (if_pos (by simp [hno]))

/-- A marker on a marker: the revolution without a frame spoils nothing (R98). -/
theorem InputSection.marker_again (h : i.revolutionOpen = true) (hpending : i.markerPending = true) :
    i.marker = { i with spoilPending := false } := (if_neg (by simp [h])).trans (if_neg (by simp [hpending]))

end

/-- The newest of the FIFO's entries is the one spoiled (R99). -/
theorem spoilNewest_concat (older : List FifoEntry) (newest : FifoEntry) :
    spoilNewest (older ++ [newest]) = older ++ [{ newest with spoils := true }] := by simp [spoilNewest]

/-- A channel not RUNNING, or in EVALUATE, does not listen (R95, R97). -/
theorem State.not_listening {s : State} (h : (s.chan .n).state ≠ .running ∨ s.noise.phase = some .evaluate) :
    s.listening = false := by
  unfold State.listening
  obtain h | h := h
  · rw [beq_eq_false_iff_ne.mpr h, Bool.false_and]
  · rw [h]
    exact Bool.and_false _

section
variable {s : State} (hreset : s.resetLow = false)
include hreset

/-- An edge on TACH of a channel that listens is counted (R95). -/
theorem exec_tachEdge (h : s.listening = true) :
    exec .tachEdge s = .next { s with input := s.input.edge s.audio.pulses } :=
  congrArg Host.Outcome.next ((State.unlessReset_high hreset _).trans (if_pos h))

/-- An edge on TACH of a channel that does not listen is not counted (R95). -/
theorem exec_tachEdge_deaf (h : s.listening = false) : exec .tachEdge s = .next s :=
  congrArg Host.Outcome.next ((State.unlessReset_high hreset _).trans (if_neg (by simp [h])))

/-- The watchdog of a channel that listens ends the stage NO_TACH (R97). -/
theorem exec_tachWatchdogExpiry (h : s.listening = true) (hruns : s.input.watchdog.isSome = true) :
    exec .tachWatchdogExpiry s = .next (s.endStage .n (noiseCut .noTach)) :=
  congrArg Host.Outcome.next ((State.unlessReset_high hreset _).trans (if_pos ⟨h, hruns⟩))

/-- The watchdog of a channel that does not listen ends nothing (R97). -/
theorem exec_tachWatchdogExpiry_deaf (h : s.listening = false) : exec .tachWatchdogExpiry s = .next s :=
  congrArg Host.Outcome.next ((State.unlessReset_high hreset _).trans (if_neg (by simp [h])))

end

/-- Settles O45: the flags and the FIFO branch by branch, and an edge by its count. -/
theorem framesMarkersAndEdgesKeepTheRecordOfRevolutions : Obligations.FramesMarkersAndEdgesKeepTheRecordOfRevolutions := by
  unfold Obligations.FramesMarkersAndEdgesKeepTheRecordOfRevolutions
  refine ⟨fun i v => ⟨InputSection.marker_first, InputSection.marker_later, InputSection.marker_again,
    fun h => InputSection.frame_closed h v, fun h hroom => InputSection.frame_enters h hroom v,
    fun h hfull hpending => InputSection.frame_lost_pending h hfull hpending v, fun h hfull hpending older newest hfifo => ?_⟩,
    fun s hreset => ⟨fun hlistening => ⟨fun hfew => ?_, fun hmany => ?_, exec_tachWatchdogExpiry hreset hlistening⟩,
      fun hdeaf => ?_⟩⟩
  · rw [InputSection.frame_lost_open h hfull hpending, hfifo, spoilNewest_concat]
  · have hedge : s.input.edge s.audio.pulses =
        { s.input with edges := s.input.edges + 1, watchdog := some 2000 } := if_neg (Nat.not_le.mpr hfew)
    rw [exec_tachEdge hreset hlistening, hedge]
  · have hedge : s.input.edge s.audio.pulses = { s.input with edges := 0, watchdog := some 2000 }.marker := if_pos hmany
    rw [exec_tachEdge hreset hlistening, hedge]
  · have hnot := State.not_listening hdeaf
    exact ⟨exec_tachEdge_deaf hreset hnot, exec_tachWatchdogExpiry_deaf hreset hnot⟩

end Sys2Proof.Machine
end

section
/-! The revolution buffers of the noise analyzer: entries taken (R107, R108, R110, R111), revolutions closed (R109). -/

namespace Sys2Proof.Machine

/-! ### The head of the FIFO taken (R107, R108) -/

section
variable {s : State} {e : FifoEntry} {rest : List FifoEntry} (hfifo : s.input.fifo = e :: rest)
include hfifo

/-- An entry that cannot be taken waits at the head of the FIFO (R108). -/
theorem State.takeAudio_waits (h : s.noise.takeEntry s.noiseFields e = .waits) : s.takeAudio = s := by
  unfold State.takeAudio
  rw [hfifo]
  dsimp only
  rw [h]

/-- An entry taken; a rejection above the reject limit ends the stage UNSTEADY (R107, R111). -/
theorem State.takeAudio_took {a : Analyzer} (h : s.noise.takeEntry s.noiseFields e = .took a) :
    s.takeAudio =
      if s.noise.rejected < a.rejected ∧ s.noiseFields.rejectLimit < a.rejected then
        State.endStage { s with input := { s.input with fifo := rest }, noise := a } .n (noiseCut .unsteady)
      else { s with input := { s.input with fifo := rest }, noise := a } := by
  unfold State.takeAudio
  rw [hfifo]
  dsimp only
  rw [h]

/-- An entry taken with nothing rejected ends nothing (R107, R111). -/
theorem State.takeAudio_keeps {a : Analyzer} (h : s.noise.takeEntry s.noiseFields e = .took a)
    (hrejected : a.rejected = s.noise.rejected) :
    s.takeAudio = { s with input := { s.input with fifo := rest }, noise := a } :=
  (State.takeAudio_took hfifo h).trans (if_neg fun ⟨hmore, _⟩ => absurd hrejected (Nat.ne_of_gt hmore))

end

/-- A channel that listens takes the head of its FIFO where it can (R107). -/
theorem exec_revolutionEntryTaken {s : State} (hreset : s.resetLow = false) (h : s.listening = true) :
    exec .revolutionEntryTaken s = .next s.takeAudio :=
  congrArg Host.Outcome.next ((State.unlessReset_high hreset _).trans (if_pos h))

/-! ### The entry by the buffers (R107, R108, R110) -/

section
variable (a : Analyzer) (b : BufferId) (v : RevBuffer)

/-- Writing a buffer keeps the reject count. -/
theorem Analyzer.rejected_setBuffer : (a.setBuffer b v).rejected = a.rejected := by cases b <;> rfl

/-- Writing a buffer keeps the settle count. -/
theorem Analyzer.settled_setBuffer : (a.setBuffer b v).settled = a.settled := by cases b <;> rfl

end

section
variable {a : Analyzer} {f : NoiseFields} {e : FifoEntry}

/-- An entry opens its revolution in the buffer that fills (R107). -/
theorem Analyzer.openIn_filling (a : Analyzer) (e : FifoEntry) : a.openIn a.filling e =
    { a.setBuffer a.filling ⟨.filling, [e.sample], e.spoils⟩ with discarding := false } :=
  congrArg (fun b => { a.setBuffer a.filling ⟨.filling, [e.sample], e.spoils⟩ with filling := b, discarding := false })
    (Analyzer.filling_setBuffer a a.filling _).symm

/-- An entry opens a revolution in the filling buffer where that is empty or entries were being dropped (R107). -/
theorem Analyzer.takeEntry_opens (hopens : e.opens = true) (hnew : a.discarding = true ∨ (a.buffer a.filling).state = .empty)
    (hfree : (a.buffer a.filling).state ≠ .folding) : a.takeEntry f e =
      .took { a.setBuffer a.filling ⟨.filling, [e.sample], e.spoils⟩ with discarding := false } := by
  rw [← a.openIn_filling e]
  refine (if_pos hopens).trans ((if_pos ?_).trans (if_neg hfree))
  obtain h | h := hnew <;> simp [h]

section
variable (hdiscarding : a.discarding = false) (hfilling : (a.buffer a.filling).state = .filling)
include hdiscarding hfilling

/-- An entry that opens a revolution waits for a fold in the other buffer (R108). -/
theorem Analyzer.takeEntry_opening_waits (hopens : e.opens = true)
    (hother : (a.buffer a.filling.other).state = .folding) : a.takeEntry f e = .waits :=
  (if_pos hopens).trans ((if_neg (by simp [hdiscarding, hfilling])).trans (if_pos hother))

/-- An entry that opens a revolution closes the one before it (R107). -/
theorem Analyzer.takeEntry_closes (hopens : e.opens = true)
    (hother : (a.buffer a.filling.other).state ≠ .folding) : a.takeEntry f e =
      .took ((a.close f (a.buffer a.filling).samples.length).openIn a.filling.other e) :=
  (if_pos hopens).trans ((if_neg (by simp [hdiscarding, hfilling])).trans (if_neg hother))

/-- An entry of a revolution is appended (R107). -/
theorem Analyzer.takeEntry_appends (hopens : e.opens = false) (hroom : (a.buffer a.filling).samples.length < 4096) :
    a.takeEntry f e = .took (a.setBuffer a.filling
      { a.buffer a.filling with
        samples := (a.buffer a.filling).samples ++ [e.sample]
        spoiled := (a.buffer a.filling).spoiled || e.spoils }) :=
  (if_neg (by simp [hopens])).trans ((if_neg (by simp [hdiscarding, hfilling])).trans (if_pos hroom))

/-- An entry that would make the revolution overlong waits for a fold in the other buffer (R108, R110; entry 24). -/
theorem Analyzer.takeEntry_overlong_waits (hopens : e.opens = false)
    (hfull : 4096 ≤ (a.buffer a.filling).samples.length) (hother : (a.buffer a.filling.other).state = .folding) :
    a.takeEntry f e = .waits :=
  (if_neg (by simp [hopens])).trans ((if_neg (by simp [hdiscarding, hfilling])).trans
    ((if_neg (Nat.not_lt.mpr hfull)).trans (if_pos hother)))

/-- An entry that makes the revolution overlong closes it, and those after it are dropped (R110). -/
theorem Analyzer.takeEntry_overlong (hopens : e.opens = false)
    (hfull : 4096 ≤ (a.buffer a.filling).samples.length) (hother : (a.buffer a.filling.other).state ≠ .folding) :
    a.takeEntry f e =
      .took { a.close f ((a.buffer a.filling).samples.length + 1) with discarding := true } :=
  (if_neg (by simp [hopens])).trans ((if_neg (by simp [hdiscarding, hfilling])).trans
    ((if_neg (Nat.not_lt.mpr hfull)).trans (if_neg hother)))

end

/-- While entries are discarded, one that opens no revolution is dropped (R110). -/
theorem Analyzer.takeEntry_drops (hopens : e.opens = false) (h : a.discarding = true) : a.takeEntry f e = .took a :=
  (if_neg (by simp [hopens])).trans (if_pos (by simp [h]))

end

/-! ### A revolution closed (R109) -/

section
variable {a : Analyzer} {f : NoiseFields} {len : Nat}

/-- A revolution is accepted unspoiled with a length from Lmin to Lmax, at most 4,096 (R109, R110). -/
theorem NoiseFields.accepts_iff (f : NoiseFields) (spoiled : Bool) (len : Nat) : f.accepts spoiled len = true ↔
    spoiled = false ∧ f.lmin ≤ len ∧ len ≤ f.lmax ∧ len ≤ 4096 := by
  simp [NoiseFields.accepts, Config.bufferLimit, and_assoc]

/-- A settle revolution before the last (R109). -/
theorem Analyzer.countSettle_more {target : Nat} (h : a.settled + 1 < target) (next : NoisePhase) :
    a.countSettle target next = { a with settled := a.settled + 1 } := if_neg (Nat.not_le.mpr h)

/-- The last settle revolution goes on to the next phase (R109). -/
theorem Analyzer.countSettle_last {target : Nat} (h : target ≤ a.settled + 1) (next : NoisePhase) :
    a.countSettle target next = { a with settled := 0, phase := some next } := if_pos h

/-- In SETTLING a closed revolution is counted (R109). -/
theorem Analyzer.close_settling (h : a.phase = some .settling) :
    a.close f len = (a.setBuffer a.filling ⟨.empty, [], false⟩).countSettle f.settle .drive := by
  unfold Analyzer.close
  dsimp only
  rw [h]
  rfl

/-- In FLANK a closed revolution is counted (R109). -/
theorem Analyzer.close_flank (h : a.phase = some .flank) :
    a.close f len = (a.setBuffer a.filling ⟨.empty, [], false⟩).countSettle f.flankSettle .coast := by
  unfold Analyzer.close
  dsimp only
  rw [h]
  rfl

/-- In DRIVE and COAST a closed revolution is accepted or rejected (R109). -/
theorem Analyzer.close_measuring (h : a.phase = some .drive ∨ a.phase = some .coast) : a.close f len =
    if f.accepts (a.buffer a.filling).spoiled len then
      a.setBuffer a.filling { a.buffer a.filling with state := .folding }
    else { a.setBuffer a.filling ⟨.empty, [], false⟩ with rejected := a.rejected + 1 } := by
  unfold Analyzer.close
  dsimp only
  obtain h | h := h <;> rw [h] <;> rfl

end

/-- Settles O46: the head of the FIFO by the buffers, and a closed revolution by the phase. -/
theorem entriesRebuildTheRevolutionsAndThePhaseJudgesThem :
    Obligations.EntriesRebuildTheRevolutionsAndThePhaseJudgesThem := by
  unfold Obligations.EntriesRebuildTheRevolutionsAndThePhaseJudgesThem
  refine ⟨fun s e rest hreset hlistening hfifo => ?_, fun a f len => ⟨fun hphase => ?settling, fun hphase => ?flank,
    fun hphase => ?measuring⟩⟩
  · have hexec := exec_revolutionEntryTaken hreset hlistening
    have hkeeps : ∀ {a : Analyzer}, s.noise.takeEntry s.noiseFields e = .took a → a.rejected = s.noise.rejected →
        exec .revolutionEntryTaken s = .next { s with input := { s.input with fifo := rest }, noise := a } :=
      fun htook hrejected => hexec.trans (congrArg _ (State.takeAudio_keeps hfifo htook hrejected))
    have hwaits : s.noise.takeEntry s.noiseFields e = .waits → exec .revolutionEntryTaken s = .next s :=
      fun hwaits => hexec.trans (congrArg _ (State.takeAudio_waits hfifo hwaits))
    have htakes : ∀ {a : Analyzer}, s.noise.takeEntry s.noiseFields e = .took a → exec .revolutionEntryTaken s = .next _ :=
      fun htook => hexec.trans (congrArg _ (State.takeAudio_took hfifo htook))
    exact ⟨fun hopens hempty _ => hkeeps (Analyzer.takeEntry_opens hopens (.inr hempty) (by simp [hempty]))
        (Analyzer.rejected_setBuffer _ _ _),
      fun hopens hdiscarding hfree => hkeeps (Analyzer.takeEntry_opens hopens (.inl hdiscarding) hfree)
        (Analyzer.rejected_setBuffer _ _ _),
      fun hopens hdiscarding hfilling hother =>
        hwaits (Analyzer.takeEntry_opening_waits hdiscarding hfilling hopens hother),
      fun hopens hdiscarding hfilling hother => htakes (Analyzer.takeEntry_closes hdiscarding hfilling hopens hother),
      fun hopens hdiscarding => hkeeps (Analyzer.takeEntry_drops hopens hdiscarding) rfl,
      fun hopens hdiscarding hfilling hroom => hkeeps (Analyzer.takeEntry_appends hdiscarding hfilling hopens hroom)
        (Analyzer.rejected_setBuffer _ _ _),
      fun hopens hdiscarding hfilling hfull hother =>
        hwaits (Analyzer.takeEntry_overlong_waits hdiscarding hfilling hopens hfull hother),
      fun hopens hdiscarding hfilling hfull hother =>
        htakes (Analyzer.takeEntry_overlong hdiscarding hfilling hopens hfull hother)⟩
  case settling =>
    have hsettled := a.settled_setBuffer a.filling ⟨.empty, [], false⟩
    exact ⟨fun hmore => (Analyzer.close_settling hphase).trans
        ((Analyzer.countSettle_more (by rwa [hsettled]) _).trans (by rw [hsettled])),
      fun hlast => (Analyzer.close_settling hphase).trans (Analyzer.countSettle_last (by rwa [hsettled]) _)⟩
  case flank =>
    have hsettled := a.settled_setBuffer a.filling ⟨.empty, [], false⟩
    exact ⟨fun hmore => (Analyzer.close_flank hphase).trans
        ((Analyzer.countSettle_more (by rwa [hsettled]) _).trans (by rw [hsettled])),
      fun hlast => (Analyzer.close_flank hphase).trans (Analyzer.countSettle_last (by rwa [hsettled]) _)⟩
  case measuring =>
    have haccepts := f.accepts_iff (a.buffer a.filling).spoiled len
    exact ⟨fun hok => (Analyzer.close_measuring hphase).trans (if_pos (haccepts.mpr hok)),
      fun hbad => (Analyzer.close_measuring hphase).trans (if_neg fun hok => hbad (haccepts.mp hok))⟩

end Sys2Proof.Machine
end

section
/-! The fold of a revolution into its accumulator bank (R112), and what the end of a fold begins (R114, R115). -/

namespace Sys2Proof.Machine

/-! ### The samples of a slot (R112) -/

/-- The numbers, from the `k`-th sample of a revolution of length L on, of the samples that go to slot `s` (R112). -/
def samplesOf (len k s n : Nat) : List Nat := (List.range n).filter fun j => (k + j) * 128 / len == s

/-- The samples of a slot, the next one first. -/
theorem samplesOf_succ (len k s n : Nat) : samplesOf len k s (n + 1) =
    if k * 128 / len = s then 0 :: (samplesOf len (k + 1) s n).map Nat.succ
    else (samplesOf len (k + 1) s n).map Nat.succ := by
  have hshift : (fun j => (k + j) * 128 / len == s) ∘ Nat.succ = fun j => (k + 1 + j) * 128 / len == s :=
    funext fun j => by rw [Function.comp_apply, Nat.succ_eq_add_one, ← Nat.add_assoc, Nat.add_right_comm]
  unfold samplesOf
  rw [List.range_succ_eq_map, List.filter_cons, List.filter_map, hshift]
  simp only [Nat.add_zero, beq_iff_eq]

/-- A fold adds to each slot its samples, and counts them (R112). -/
theorem getD_foldSamples (len k : Nat) (samples : List Int) (slots : List AccSlot) {s : Nat} (h : s < slots.length) :
    (foldSamples len k samples slots).getD s ⟨0, 0⟩ =
      ⟨(slots.getD s ⟨0, 0⟩).sum + ((samplesOf len k s samples.length).map fun j => samples.getD j 0).sum,
        (slots.getD s ⟨0, 0⟩).count + (samplesOf len k s samples.length).length⟩ := by
  induction samples generalizing k slots with
  | nil => simp [foldSamples, samplesOf]
  | cons v vs ih =>
    have hlater : (fun j => (v :: vs).getD j 0) ∘ Nat.succ = fun j => vs.getD j 0 :=
      funext fun j => List.getD_cons_succ
    unfold foldSamples
    rw [ih (k + 1) _ (by rwa [List.length_modify]), List.length_cons, samplesOf_succ]
    have hmodify : (slots.modify (k * 128 / len) fun a => a.add v).getD s ⟨0, 0⟩ =
        if k * 128 / len = s then (slots.getD s ⟨0, 0⟩).add v else slots.getD s ⟨0, 0⟩ := by
      rw [List.getD_eq_getElem _ _ (by rwa [List.length_modify]), List.getElem_modify, List.getD_eq_getElem _ _ h]
    rw [hmodify]
    by_cases hs : k * 128 / len = s
    · rw [if_pos hs, if_pos hs, List.map_cons, List.map_map, hlater, List.sum_cons, List.length_cons, List.length_map,
        List.getD_cons_zero]
      simp only [AccSlot.add, AccSlot.mk.injEq]
      omega
    · rw [if_neg hs, if_neg hs, List.map_map, hlater, List.length_map]

/-- How many of the first numbers lie in an interval below them. -/
theorem length_filter_range (n a b : Nat) (h : b ≤ n) :
    ((List.range n).filter fun j => decide (a ≤ j ∧ j < b)).length = b - a := by
  calc ((List.range n).filter fun j => decide (a ≤ j ∧ j < b)).length
      = Nat.count (fun j => a ≤ j ∧ j < b) n := List.countP_eq_length_filter.symm
    _ = ((Finset.range n).filter fun j => a ≤ j ∧ j < b).card := Nat.count_eq_card_filter_range _ n
    _ = (Finset.Ico a b).card := by
      congr 1
      ext j
      simp only [Finset.mem_filter, Finset.mem_range, Finset.mem_Ico, and_iff_right_iff_imp]
      exact fun hj => Nat.lt_of_lt_of_le hj.2 h
    _ = b - a := Nat.card_Ico a b

/-- A sample goes to slot `s` when its number lies between the slot's bounds (R112). -/
theorem slot_iff {len s j : Nat} (hlen : 0 < len) :
    j * 128 / len = s ↔ (s * len + 127) / 128 ≤ j ∧ j < ((s + 1) * len + 127) / 128 := by
  have hlow := Nat.le_div_iff_mul_le hlen (x := s) (y := j * 128)
  have hhigh := Nat.div_lt_iff_lt_mul hlen (x := j * 128) (y := s + 1)
  generalize (s + 1) * len = high at *
  generalize s * len = low at *
  omega

/-- The samples of a slot are L / 128 or one more (R112). -/
theorem length_samplesOf {len s : Nat} (hlen : 0 < len) (hs : s < 128) :
    (samplesOf len 0 s len).length = ((s + 1) * len + 127) / 128 - (s * len + 127) / 128 := by
  have hmul : (s + 1) * len ≤ 128 * len := Nat.mul_le_mul_right len hs
  rw [← length_filter_range len _ (((s + 1) * len + 127) / 128) (by omega)]
  unfold samplesOf
  refine congrArg List.length (List.filter_congr fun j _ => ?_)
  rw [Nat.zero_add, Bool.eq_iff_iff, beq_iff_eq, decide_eq_true_iff, slot_iff hlen]

/-- The samples of a slot are L / 128 or one more; L / 128 where 128 divides L (R112). -/
theorem length_samplesOf_cases {len s : Nat} (hlen : 0 < len) (hs : s < 128) :
    ((samplesOf len 0 s len).length = len / 128 ∨ (samplesOf len 0 s len).length = len / 128 + 1) ∧
    (len % 128 = 0 → (samplesOf len 0 s len).length = len / 128) := by
  rw [length_samplesOf hlen hs, Nat.succ_mul]
  refine ⟨by omega, fun hdiv => ?_⟩
  obtain ⟨m, rfl⟩ := Nat.dvd_of_mod_eq_zero hdiv
  rw [show s * (128 * m) = 128 * (s * m) from Nat.mul_left_comm s 128 m]
  omega

/-! ### What the end of a fold begins (R112, R114, R115) -/

/-- The fold of the buffer that is FOLDING ends (R112). -/
theorem exec_foldEnd {s : State} {b : BufferId} (hreset : s.resetLow = false) (h : s.listening = true)
    (hb : s.noise.folding = some b) : exec .foldEnd s = .next (s.endFold b) := by
  refine congrArg Host.Outcome.next ((State.unlessReset_high hreset _).trans ((if_pos h).trans ?_))
  rw [hb]

section
variable {s : State} {b : BufferId}

/-- The analyzer after a fold, its buffer empty (R112). -/
def Analyzer.emptied (a : Analyzer) (b : BufferId) : Analyzer := a.setBuffer b ⟨.empty, [], false⟩

/-- A fold in DRIVE: the drive bank, and FLANK at the drive target (R112, R114). -/
theorem State.endFold_drive (h : s.noise.phase = some .drive) : s.endFold b =
    if s.noiseFields.driveTarget ≤ s.noise.drive.accepted + 1 then
      State.beginFlank { s with noise := { s.noise.emptied b with
        drive := s.noise.drive.fold (s.noise.buffer b).samples } } s.noiseFields
    else { s with noise := { s.noise.emptied b with drive := s.noise.drive.fold (s.noise.buffer b).samples } } := by
  unfold State.endFold
  dsimp only
  rw [h]
  rfl

/-- A fold in COAST: the coast bank, and EVALUATE at the coast target (R112, R115). -/
theorem State.endFold_coast (h : s.noise.phase = some .coast) : s.endFold b =
    if s.noiseFields.coastTarget ≤ s.noise.coast.accepted + 1 then
      State.beginEvaluation { s with noise := { s.noise.emptied b with
        coast := s.noise.coast.fold (s.noise.buffer b).samples } }
    else { s with noise := { s.noise.emptied b with coast := s.noise.coast.fold (s.noise.buffer b).samples } } := by
  unfold State.endFold
  dsimp only
  rw [h]
  rfl

/-- The FLANK directive of a bound channel names its handle and stage (R114, R177). -/
theorem State.directFlank_bound {g : Binding} (hg : (s.chan .n).binding = some g) :
    s.directFlank = s.direct .n .flank (g.handle.bytes ++ [g.stage.byte, 2]) := by
  unfold State.directFlank
  rw [hg]
  rfl

/-- EVALUATE empties both buffers, whatever the fold left in them (R115; entry 22). -/
theorem Analyzer.evaluate_emptied (a : Analyzer) (b : BufferId) (q : AccBank) :
    { a.emptied b with coast := q, phase := some .evaluate, x := .clear, y := .clear } =
      { a with coast := q, phase := some .evaluate, x := ⟨.empty, [], false⟩, y := ⟨.empty, [], false⟩ } := by
  cases b <;> rfl

end

/-- Settles O47: the end of a fold by its phase and target; the slots by the numbers of their samples. -/
theorem aFoldSpreadsTheRevolutionAndEndsInItsBank : Obligations.AFoldSpreadsTheRevolutionAndEndsInItsBank := by
  unfold Obligations.AFoldSpreadsTheRevolutionAndEndsInItsBank
  refine ⟨fun s b g hreset hlistening hfolding hg => ?_, fun b samples hslots hsamples => ?_⟩
  · have hexec := exec_foldEnd hreset hlistening hfolding
    refine ⟨fun hdrive => ⟨fun hfew => ?_, fun hmany => ?_⟩, fun hcoast => ⟨fun hfew => ?_, fun hmany => ?_⟩⟩
    · exact hexec.trans (congrArg _ ((State.endFold_drive hdrive).trans (if_neg (Nat.not_le.mpr hfew))))
    · refine hexec.trans (congrArg _ ((State.endFold_drive hdrive).trans ((if_pos hmany).trans ?_)))
      exact State.directFlank_bound hg
    · exact hexec.trans (congrArg _ ((State.endFold_coast hcoast).trans (if_neg (Nat.not_le.mpr hfew))))
    · refine hexec.trans (congrArg _ ((State.endFold_coast hcoast).trans ((if_pos hmany).trans ?_)))
      unfold State.beginEvaluation
      dsimp only
      rw [Analyzer.evaluate_emptied]
      rfl
  · have hlen : 0 < samples.length := List.length_pos_iff.mpr hsamples
    refine ⟨rfl, (length_foldSamples _ _ _ _).trans hslots, fun s hs => ?_⟩
    have hmine : ((List.range samples.length).filter fun k => k * 128 / samples.length == s) =
        samplesOf samples.length 0 s samples.length := by simp only [samplesOf, Nat.zero_add]
    obtain ⟨hcases, hdiv⟩ := length_samplesOf_cases hlen hs
    dsimp only
    rw [hmine]
    exact ⟨getD_foldSamples _ _ _ _ (hslots ▸ hs), hcases, hdiv, fun hlow hhigh => by omega⟩

end Sys2Proof.Machine
end

section
/-! The evaluation of the noise analyzer and its judgement (R119 to R121). -/

namespace Sys2Proof.Machine

/-- A pair of band and flank is checked where its limit is not 0 (R120). -/
theorem any_checkedPairs (b : BandFields) (x : Nat × Nat) : (checkedPairs b x).any CheckedPair.exceeds = true ↔
    (b.driveLimit ≠ 0 ∧ b.driveLimit < x.1) ∨ (b.coastLimit ≠ 0 ∧ b.coastLimit < x.2) := by
  unfold checkedPairs
  rw [List.any_append, Bool.or_eq_true]
  refine or_congr ?_ ?_ <;> split <;> simp_all [CheckedPair.exceeds]

/-- The checked pairs of bands with amplitudes of their own, band by band (R120). -/
theorem allPairs_map (bands : List BandFields) (g : BandFields → Nat × Nat) (drive coast : Nat) :
    allPairs bands ⟨drive, coast, bands.map g⟩ = bands.flatMap fun b => checkedPairs b (g b) := by
  unfold allPairs
  dsimp only
  rw [← List.map_prod_left_eq_zip, List.flatMap_map]

/-- A checked amplitude exceeds its limit in one of the bands (R119). -/
theorem any_allPairs (bands : List BandFields) (g : BandFields → Nat × Nat) (drive coast : Nat) :
    (allPairs bands ⟨drive, coast, bands.map g⟩).any CheckedPair.exceeds = true ↔
      ∃ b ∈ bands, (b.driveLimit ≠ 0 ∧ b.driveLimit < (g b).1) ∨ (b.coastLimit ≠ 0 ∧ b.coastLimit < (g b).2) := by
  rw [allPairs_map, List.any_flatMap, List.any_eq_true]
  simp only [any_checkedPairs]

/-- The noise summary of results (R121). -/
def noiseSummary (bands : List BandFields) (r : NoiseResults) : Summary :=
  .noise r.driveLevel r.coastLevel (worstBand (allPairs bands r))

section
variable {f : NoiseFields} {bands : List BandFields} {r : NoiseResults}

/-- A level above its limit ends the stage FAIL LEVEL (R119). -/
theorem judgeNoise_level (h : f.driveLimit < r.driveLevel ∨ f.coastLimit < r.coastLevel) :
    judgeNoise f bands r = ⟨.fail, .level, some (noiseSummary bands r)⟩ := if_pos (by simpa using h)

variable (hdrive : r.driveLevel ≤ f.driveLimit) (hcoast : r.coastLevel ≤ f.coastLimit)
include hdrive hcoast

/-- With the levels good, a checked amplitude above its limit ends the stage FAIL BAND (R119). -/
theorem judgeNoise_band (h : (allPairs bands r).any CheckedPair.exceeds = true) :
    judgeNoise f bands r = ⟨.fail, .band, some (noiseSummary bands r)⟩ :=
  (if_neg (by simp [hdrive, hcoast])).trans (if_pos h)

/-- With levels and amplitudes good, the stage ends PASS (R119). -/
theorem judgeNoise_pass (h : ¬(allPairs bands r).any CheckedPair.exceeds = true) :
    judgeNoise f bands r = ⟨.pass, .none, some (noiseSummary bands r)⟩ :=
  (if_neg (by simp [hdrive, hcoast])).trans (if_neg h)

end

/-- The evaluation of a RUNNING channel N in EVALUATE ends its stage by the judgement (R115, R119). -/
theorem exec_noiseEvaluationEnd {s : State} (hreset : s.resetLow = false) (hrun : (s.chan .n).state = .running)
    (hphase : s.noise.phase = some .evaluate) : exec .noiseEvaluationEnd s = .next s.evaluateNoise :=
  congrArg Host.Outcome.next ((State.unlessReset_high hreset _).trans (if_pos ⟨hrun, hphase⟩))

/-- Settles O48: the judgement's three ends. -/
theorem theNoiseEvaluationEndsTheStageByItsJudgement : Obligations.TheNoiseEvaluationEndsTheStageByItsJudgement := by
  unfold Obligations.TheNoiseEvaluationEndsTheStageByItsJudgement
  intro s hreset hrun hphase bands f d q amps summary above ends
  have hexec : ∀ {e : StageEnd}, judgeNoise f bands ⟨levelOf d, levelOf q, amps⟩ = e → ends e := by
    rintro e rfl
    exact exec_noiseEvaluationEnd hreset hrun hphase
  have habove : (allPairs bands ⟨levelOf d, levelOf q, amps⟩).any CheckedPair.exceeds = true ↔ above :=
    any_allPairs bands _ _ _
  exact ⟨fun hlevel => hexec (judgeNoise_level hlevel),
    fun hdrive hcoast hband => hexec (judgeNoise_band hdrive hcoast (habove.mpr hband)),
    fun hdrive hcoast hgood => hexec (judgeNoise_pass hdrive hcoast fun hband => hgood (habove.mp hband))⟩

end Sys2Proof.Machine
end

section
/-! Roots and roundings, the sine table and the worst band (00, R116 to R120). -/

namespace Sys2Proof.Machine

/-! ### Integer square roots and rounded quotients (00, Rounding and integer functions) -/

/-- The bits of a root added to one that is not too large and at most `2 ^ n` too small give the root. -/
theorem isqrtBits_spec (x n r : Nat) (hlow : r * r ≤ x) (hhigh : x < (r + 2 ^ n) * (r + 2 ^ n)) :
    isqrtBits x n r * isqrtBits x n r ≤ x ∧ x < (isqrtBits x n r + 1) * (isqrtBits x n r + 1) := by
  induction n generalizing r with
  | zero => exact ⟨hlow, hhigh⟩
  | succ n ih =>
    unfold isqrtBits
    split
    · next hbit => exact ih _ hbit (by rwa [Nat.add_assoc, ← Nat.two_mul, ← Nat.pow_succ'])
    · next hbit => exact ih _ hlow (Nat.not_le.mp hbit)

/-- The integer square root is the largest integer whose square does not exceed its argument. -/
theorem isqrt_spec (x : Nat) : isqrt x * isqrt x ≤ x ∧ x < (isqrt x + 1) * (isqrt x + 1) := by
  refine isqrtBits_spec x _ 0 (Nat.zero_le x) ?_
  have hlog : x < 2 ^ (x.log2 + 1) := Nat.lt_log2_self
  rw [Nat.zero_add, ← Nat.pow_add]
  exact hlog.trans_le (Nat.pow_le_pow_right (by decide) (by omega))

/-- A quotient of a number not below 0 is rounded to the nearest integer, an exact half up. -/
theorem roundDiv_nearest {a : Int} (ha : 0 ≤ a) {b : Nat} (hb : 0 < b) :
    2 * a - b < 2 * b * roundDiv a b ∧ 2 * b * roundDiv a b ≤ 2 * a + b := by
  have hle := (le_roundDiv_iff ha hb (roundDiv a b)).mp le_rfl
  have hlt := (roundDiv_lt_iff ha hb (roundDiv a b + 1)).mp (Int.lt_succ _)
  rw [Int.mul_comm (roundDiv a b)] at hle
  rw [Int.add_mul, Int.one_mul, Int.mul_comm (roundDiv a b)] at hlt
  omega

/-- Rounding is the same away from zero on both sides. -/
theorem roundDiv_neg (a : Int) {b : Nat} (hb : 0 < b) : roundDiv (-a) b = -roundDiv a b := by
  unfold roundDiv
  rw [Int.natAbs_neg]
  rcases lt_trichotomy a 0 with h | rfl | h
  · rw [if_neg (by omega), if_pos h, Int.neg_neg]
  · rw [Int.neg_zero, if_neg (lt_irrefl 0), Int.natAbs_zero, Nat.div_eq_of_lt (by omega)]
    rfl
  · rw [if_pos (by omega), if_neg (by omega)]

/-! ### Deviations, the sine table, order amplitudes (R116 to R118) -/

/-- A deviation is its slot's mean less the mean of the means (R116). -/
theorem getD_deviations (b : AccBank) {s : Nat} (h : s < b.slots.length) : b.deviations.getD s 0 =
    roundDiv (b.slots.getD s ⟨0, 0⟩).sum (b.slots.getD s ⟨0, 0⟩).count -
      roundDiv (b.slots.map fun x => roundDiv x.sum x.count).sum 128 := by
  simp [AccBank.deviations, h]

/-- The sine table's symmetries about its quarters (R117). -/
theorem sine_symmetries : ∀ i : Nat, i ≤ 64 →
    sine (64 - i) = sine i ∧ sine (64 + i) = -sine i ∧ sine (128 - i) = -sine i := by
  decide

/-- The sine table repeats after 128 (R117). -/
theorem sine_period (i : Nat) : sine (i + 128) = sine i := by
  unfold sine
  rw [Nat.add_mod_right]

/-- The sine table by the residue of its index (R117). -/
theorem sine_mod (i : Nat) : sine (i % 128) = sine i := by
  unfold sine
  rw [Nat.mod_mod]

/-- The correlation of deviations from slot `s` on, as a sum over the slots (R118). -/
theorem correlate_eq_sum (table : Nat → Int) (k s : Nat) (d : List Int) : correlate table k s d =
    ((List.range d.length).map fun j => d.getD j 0 * table (k * (s + j))).sum := by
  induction d generalizing s with
  | nil => rfl
  | cons v d ih =>
    unfold correlate
    rw [ih, List.length_cons, List.range_succ_eq_map, List.map_cons, List.map_map, List.sum_cons]
    refine congrArg (v * table (k * s) + ·) (congrArg List.sum (List.map_congr_left fun j _ => ?_))
    rw [Function.comp_apply, List.getD_cons_succ, Nat.succ_eq_add_one, Nat.add_assoc, Nat.add_comm 1]

/-- The order amplitude by the correlations with cosine and sine over the 128 slots (R118). -/
theorem amplitudeOf_eq {d : List Int} (h : d.length = 128) (k : Nat) : amplitudeOf d k =
    isqrt (((List.range 128).map fun s => d.getD s 0 * sine ((k * s + 32) % 128)).sum ^ 2 +
      ((List.range 128).map fun s => d.getD s 0 * sine (k * s % 128)).sum ^ 2).toNat / 2097152 := by
  unfold amplitudeOf
  simp only [correlate_eq_sum, h, Nat.zero_add, sine_mod, pow_two, cosine]

/-! ### The worst band (R120) -/

/-- The checked pairs of a band: DRIVE before COAST, each where its limit is not 0 (R120). -/
theorem checkedPairs_eq (b : BandFields) (x : Nat × Nat) : checkedPairs b x =
    (if b.driveLimit ≠ 0 then [⟨⟨b.order, .drive, x.1⟩, b.driveLimit⟩] else []) ++
      (if b.coastLimit ≠ 0 then [⟨⟨b.order, .coast, x.2⟩, b.coastLimit⟩] else []) := by
  unfold checkedPairs
  rw [ite_not, ite_not]

/-- The checked pairs of the first band, then those of the others (R120). -/
theorem allPairs_cons (b : BandFields) (bands : List BandFields) (drive coast : Nat) (x : Nat × Nat)
    (amps : List (Nat × Nat)) : allPairs (b :: bands) ⟨drive, coast, x :: amps⟩ =
      checkedPairs b x ++ allPairs bands ⟨drive, coast, amps⟩ := by
  unfold allPairs
  rw [List.zip_cons_cons, List.flatMap_cons]

/-- The comparison by cross-multiplied scores (R120). -/
theorem CheckedPair.outranks_iff (p q : CheckedPair) :
    p.outranks q = true ↔ q.band.amplitude * p.limit < p.band.amplitude * q.limit := by simp [CheckedPair.outranks]

/-- A pair that outranks another outranks each that does not outrank the other, limits not 0 (R120). -/
theorem CheckedPair.outranks_of_not {x y z : CheckedPair} (hz : 0 < z.limit)
    (hxy : x.outranks y = true) (hzy : ¬z.outranks y = true) : x.outranks z = true := by
  rw [CheckedPair.outranks_iff] at *
  refine Nat.lt_of_mul_lt_mul_right (a := y.limit) ?_
  calc z.band.amplitude * x.limit * y.limit
      = z.band.amplitude * y.limit * x.limit := Nat.mul_right_comm _ _ _
    _ ≤ y.band.amplitude * z.limit * x.limit := Nat.mul_le_mul_right _ (Nat.not_lt.mp hzy)
    _ = y.band.amplitude * x.limit * z.limit := Nat.mul_right_comm _ _ _
    _ < x.band.amplitude * y.limit * z.limit := Nat.mul_lt_mul_of_pos_right hxy hz
    _ = x.band.amplitude * z.limit * y.limit := Nat.mul_right_comm _ _ _

/-- Of two pairs, one that outranks the other is not outranked by it. -/
theorem CheckedPair.not_outranks {p q : CheckedPair} (h : q.outranks p = true) : ¬p.outranks q = true := by
  rw [CheckedPair.outranks_iff] at *
  exact Nat.lt_asymm h

/-- The worst of the pairs outranks those before it, and none after it outranks it (R120). -/
theorem worstFrom_splits (p : CheckedPair) (ps : List CheckedPair) (hlimit : ∀ x ∈ p :: ps, 0 < x.limit) :
    ∃ before after : List CheckedPair, p :: ps = before ++ worstFrom p ps :: after ∧
      (∀ y ∈ before, (worstFrom p ps).outranks y = true) ∧ ∀ y ∈ after, ¬y.outranks (worstFrom p ps) = true := by
  induction ps generalizing p with
  | nil => exact ⟨[], [], rfl, fun _ h => absurd h List.not_mem_nil, fun _ h => absurd h List.not_mem_nil⟩
  | cons q qs ih =>
    obtain ⟨hp, hlater⟩ := List.forall_mem_cons.mp hlimit
    obtain ⟨hq, hqs⟩ := List.forall_mem_cons.mp hlater
    by_cases h : q.outranks p = true
    · have hworst : worstFrom p (q :: qs) = worstFrom q qs := by simp [worstFrom, h]
      obtain ⟨before, after, hsplit, hbefore, hafter⟩ := ih q hlater
      rw [hworst]
      refine ⟨p :: before, after, congrArg (p :: ·) hsplit, List.forall_mem_cons.mpr ⟨?_, hbefore⟩, hafter⟩
      cases before with
      | nil =>
        rw [← (List.cons.inj hsplit).1]
        exact h
      | cons b bs =>
        obtain rfl := (List.cons.inj hsplit).1
        exact CheckedPair.outranks_of_not hp (hbefore q List.mem_cons_self) (CheckedPair.not_outranks h)
    · have hworst : worstFrom p (q :: qs) = worstFrom p qs := by simp [worstFrom, h]
      obtain ⟨before, after, hsplit, hbefore, hafter⟩ := ih p (List.forall_mem_cons.mpr ⟨hp, hqs⟩)
      rw [hworst]
      cases before with
      | nil =>
        obtain ⟨hself, rfl⟩ := List.cons.inj hsplit
        rw [← hself] at hafter ⊢
        exact ⟨[], q :: qs, rfl, fun _ hmem => absurd hmem List.not_mem_nil, List.forall_mem_cons.mpr ⟨h, hafter⟩⟩
      | cons b bs =>
        obtain ⟨rfl, hrest⟩ := List.cons.inj hsplit
        obtain ⟨hfirst, hothers⟩ := List.forall_mem_cons.mp hbefore
        refine ⟨p :: q :: bs, after, congrArg (fun l => p :: q :: l) hrest, ?_, hafter⟩
        exact List.forall_mem_cons.mpr ⟨hfirst,
          List.forall_mem_cons.mpr ⟨CheckedPair.outranks_of_not hq hfirst h, hothers⟩⟩

/-- There is a worst band exactly when a pair is checked (R120). -/
theorem worstBand_eq_none_iff (pairs : List CheckedPair) : worstBand pairs = none ↔ pairs = [] := by
  cases pairs <;> simp [worstBand]

/-- Settles O49: roots and roundings, deviations, sine table and amplitudes, the checked pairs and the worst of them. -/
theorem rootsRoundingsAndTheWorstBandAreExact : Obligations.RootsRoundingsAndTheWorstBandAreExact := by
  unfold Obligations.RootsRoundingsAndTheWorstBandAreExact
  refine ⟨isqrt_spec, fun a b hb => ⟨fun ha => roundDiv_nearest ha hb, roundDiv_neg a hb⟩, fun _ => rfl,
    fun b => ⟨by simp [AccBank.deviations], fun _ h => getD_deviations b h⟩,
    ⟨by decide, sine_symmetries, sine_period⟩, fun _ k h => amplitudeOf_eq h k, fun drive coast b bands x amps => ?pairs,
    fun pairs hlimit => ⟨worstBand_eq_none_iff pairs, fun hsome => ?worst⟩⟩
  case pairs => exact ⟨rfl, by rw [allPairs_cons, checkedPairs_eq]⟩
  case worst =>
    obtain ⟨p, ps, rfl⟩ := List.exists_cons_of_ne_nil hsome
    obtain ⟨before, after, hsplit, hbefore, hafter⟩ := worstFrom_splits p ps hlimit
    exact ⟨before, after, worstFrom p ps, hsplit, fun y hy => (CheckedPair.outranks_iff _ _).mp (hbefore y hy),
      fun y hy => Nat.not_lt.mp (mt (CheckedPair.outranks_iff _ _).mpr (hafter y hy)), rfl⟩

end Sys2Proof.Machine
end

section
/-! The leak analyzer: readings taken (R127 to R137) and its four timers (R131, R133, R136, R138). -/

namespace Sys2Proof.Machine

/-! ### A reading taken (R128) -/

section
variable {s : State} {c : LeakCh} {r : LeakReading} {rest : List LeakReading}
  (hreset : s.resetLow = false) (hrun : (s.chan c.id).state = .running) (hqueue : (s.leak c).queue = r :: rest)
include hreset hrun hqueue

/-- A reading that leaves the test going on (R128). -/
theorem exec_leakReadingTaken_goesOn {a : LeakAnalyzer}
    (h : LeakAnalyzer.take { s.leak c with queue := rest } (s.leakFields c) r = .goesOn a) :
    exec (.leakReadingTaken c) s = .next (s.setLeak c a) := by
  refine congrArg Host.Outcome.next ((State.unlessReset_high hreset _).trans ?_)
  unfold State.takeLeak
  rw [hrun, hqueue]
  dsimp only
  rw [h]

/-- A reading that ends the stage (R130, R132). -/
theorem exec_leakReadingTaken_ends {e : StageEnd}
    (h : LeakAnalyzer.take { s.leak c with queue := rest } (s.leakFields c) r = .ends e) :
    exec (.leakReadingTaken c) s = .next ((s.setLeak c { s.leak c with queue := rest }).endStage c.id e) := by
  refine congrArg Host.Outcome.next ((State.unlessReset_high hreset _).trans ?_)
  unfold State.takeLeak
  rw [hrun, hqueue]
  dsimp only
  rw [h]

/-- The end reading begins EVALUATE (R137). -/
theorem exec_leakReadingTaken_evaluates {a : LeakAnalyzer}
    (h : LeakAnalyzer.take { s.leak c with queue := rest } (s.leakFields c) r = .evaluates a) :
    exec (.leakReadingTaken c) s = .next (s.beginLeakEvaluation c a) := by
  refine congrArg Host.Outcome.next ((State.unlessReset_high hreset _).trans ?_)
  unfold State.takeLeak
  rw [hrun, hqueue]
  dsimp only
  rw [h]

end

/-- The end reading of a bound channel sends VENT with its handle and stage (R137, R139). -/
theorem State.beginLeakEvaluation_bound {s : State} {c : LeakCh} {b : Binding} (hb : (s.chan c.id).binding = some b)
    (a : LeakAnalyzer) : s.beginLeakEvaluation c a =
      ((s.setLeak c a).setChan c.id { s.chan c.id with stageTimer := none }).direct c.id .vent
        (b.handle.bytes ++ [b.stage.byte]) := by
  unfold State.beginLeakEvaluation State.directVent
  rw [State.chan_setChan, if_pos rfl]
  dsimp only
  rw [hb]

/-! ### The reading by the phase (R130, R132, R134 to R137) -/

section
variable {a : LeakAnalyzer} {f : LeakFields} {p : LeakPoint}

/-- A valid reading in FILL (R130). -/
theorem LeakAnalyzer.take_fill (h : a.phase = some .fill) : a.take f (some p) = a.takeFill f p := by
  unfold LeakAnalyzer.take
  dsimp only
  rw [h]

/-- A valid reading in SETTLE (R132). -/
theorem LeakAnalyzer.take_settle (h : a.phase = some .settle) : a.take f (some p) = a.takeSettle f p := by
  unfold LeakAnalyzer.take
  dsimp only
  rw [h]

/-- A valid reading in MEASURE (R134, R135, R137). -/
theorem LeakAnalyzer.take_measure (h : a.phase = some .measure) : a.take f (some p) = a.takeMeasure f p := by
  unfold LeakAnalyzer.take
  dsimp only
  rw [h]

/-- FILL ends in SETTLE where a settle time is asked for (R130, R132). -/
theorem LeakAnalyzer.beginSettle_settles (h : f.settleMs ≠ 0) : a.beginSettle f =
    { a with fillTimer := none, phase := some .settle, settleTimer := some f.settleMs } := if_neg h

/-- FILL ends in MEASURE where no settle time is asked for (R132). -/
theorem LeakAnalyzer.beginSettle_measures (h : f.settleMs = 0) : a.beginSettle f =
    { a with fillTimer := none, phase := some .measure, settleTimer := none, startReading := none } := if_pos h

/-- A pressure above the target by more than the margin ends the stage OVERPRESSURE in FILL (R130). -/
theorem LeakAnalyzer.takeFill_over (h : f.target + f.margin < p.pressure) :
    a.takeFill f p = .ends (leakCut .overpressure) := if_pos h

section
variable (h : p.pressure ≤ f.target + f.margin)
include h

/-- A pressure outside the tolerance is kept as the last fill pressure (R130). -/
theorem LeakAnalyzer.takeFill_outside
    (hout : p.pressure + f.tolerance < f.target ∨ f.target + f.tolerance < p.pressure) :
    a.takeFill f p = .goesOn { a with lastFill := some p.pressure } :=
  (if_neg (Nat.not_lt.mpr h)).trans (congrArg LeakTaken.goesOn (if_neg (by omega)))

/-- A pressure within the tolerance ends FILL (R130). -/
theorem LeakAnalyzer.takeFill_within (hlow : f.target ≤ p.pressure + f.tolerance)
    (hhigh : p.pressure ≤ f.target + f.tolerance) :
    a.takeFill f p = .goesOn (LeakAnalyzer.beginSettle { a with lastFill := some p.pressure } f) :=
  (if_neg (Nat.not_lt.mpr h)).trans (congrArg LeakTaken.goesOn (if_pos ⟨hlow, hhigh⟩))

/-- A pressure below the target by more than the greatest drop ends the stage GROSS_LEAK in SETTLE (R132). -/
theorem LeakAnalyzer.takeSettle_gross (hdrop : p.pressure + f.dropMax < f.target) :
    a.takeSettle f p = .ends (grossLeak f p.pressure) := (if_neg (Nat.not_lt.mpr h)).trans (if_pos hdrop)

/-- A pressure within the bounds leaves SETTLE going on (R132). -/
theorem LeakAnalyzer.takeSettle_goesOn (hdrop : f.target ≤ p.pressure + f.dropMax) : a.takeSettle f p = .goesOn a :=
  (if_neg (Nat.not_lt.mpr h)).trans (if_neg (Nat.not_lt.mpr hdrop))

end

/-- A pressure above the target by more than the margin ends the stage OVERPRESSURE in SETTLE (R132). -/
theorem LeakAnalyzer.takeSettle_over (h : f.target + f.margin < p.pressure) :
    a.takeSettle f p = .ends (leakCut .overpressure) := if_pos h

/-- The first valid reading of MEASURE is the start reading (R134). -/
theorem LeakAnalyzer.takeMeasure_start (h : a.measureExpired = false) (hnone : a.startReading = none) :
    a.takeMeasure f p = .goesOn { a with startReading := some p, measureTimer := some f.measureMs } :=
  (if_neg (by simp [h])).trans (if_pos (by simp [hnone]))

/-- A reading between the start reading and the measure time's end is only watched (R135). -/
theorem LeakAnalyzer.takeMeasure_watch (h : a.measureExpired = false) (hsome : a.startReading.isSome = true) :
    a.takeMeasure f p = .goesOn a :=
  (if_neg (by simp [h])).trans (if_neg (by simpa using Option.isSome_iff_ne_none.mp hsome))

/-- The first valid reading after the measure time is the end reading (R137). -/
theorem LeakAnalyzer.takeMeasure_end (h : a.measureExpired = true) : a.takeMeasure f p =
    .evaluates { a with phase := some .evaluate, queue := [], endTimer := none, endReading := some p } := if_pos h

end

/-! ### The four timers (R131, R133, R136, R138) -/

section
variable {s : State} {c : LeakCh} (hreset : s.resetLow = false) (hrun : (s.chan c.id).state = .running)
include hreset hrun

/-- The fill timer ends the stage GROSS_LEAK on the last fill pressure or 0 (R131). -/
theorem exec_fillTimerExpiry (h : (s.leak c).fillTimer.isSome = true) : exec (.fillTimerExpiry c) s =
    .next (s.endStage c.id (grossLeak (s.leakFields c) ((s.leak c).lastFill.getD 0))) :=
  congrArg Host.Outcome.next ((State.unlessReset_high hreset _).trans (if_pos ⟨hrun, h⟩))

/-- The settle timer begins MEASURE (R133). -/
theorem exec_leakSettleTimerExpiry (h : (s.leak c).settleTimer.isSome = true) :
    exec (.leakSettleTimerExpiry c) s = .next (s.setLeak c (s.leak c).beginMeasure) :=
  congrArg Host.Outcome.next ((State.unlessReset_high hreset _).trans (if_pos ⟨hrun, h⟩))

/-- The measure timer starts the end-reading timer (R136). -/
theorem exec_measureTimerExpiry (h : (s.leak c).measureTimer.isSome = true) : exec (.measureTimerExpiry c) s =
    .next (s.setLeak c { s.leak c with measureTimer := none, measureExpired := true, endTimer := some 2000 }) :=
  congrArg Host.Outcome.next ((State.unlessReset_high hreset _).trans (if_pos ⟨hrun, h⟩))

/-- The end-reading timer ends the stage NO_READING (R138). -/
theorem exec_endReadingTimerExpiry (h : (s.leak c).endTimer.isSome = true) :
    exec (.endReadingTimerExpiry c) s = .next (s.endStage c.id (leakCut .noReading)) :=
  congrArg Host.Outcome.next ((State.unlessReset_high hreset _).trans (if_pos ⟨hrun, h⟩))

end

/-- Settles O50: a reading by its phase, and the timers. -/
theorem leakReadingsAndTimersMoveTheTestOn : Obligations.LeakReadingsAndTimersMoveTheTestOn := by
  unfold Obligations.LeakReadingsAndTimersMoveTheTestOn
  refine ⟨fun s c r rest b hreset hrun hb hqueue => ?_, fun s c hreset hrun =>
    ⟨exec_fillTimerExpiry hreset hrun, exec_leakSettleTimerExpiry hreset hrun, exec_measureTimerExpiry hreset hrun,
      exec_endReadingTimerExpiry hreset hrun⟩⟩
  intro f a goes ends
  have hgoes : ∀ {x}, a.take f r = .goesOn x → goes x := exec_leakReadingTaken_goesOn hreset hrun hqueue
  have hends : ∀ {e}, a.take f r = .ends e → ends e := exec_leakReadingTaken_ends hreset hrun hqueue
  have hevaluates : ∀ {x}, a.take f r = .evaluates x →
      exec (.leakReadingTaken c) s = .next (s.beginLeakEvaluation c x) :=
    exec_leakReadingTaken_evaluates hreset hrun hqueue
  refine ⟨?dropped, ?valid⟩
  case dropped =>
    rintro rfl
    exact hgoes rfl
  case valid =>
    rintro p rfl
    refine ⟨fun hphase => ?fill, fun hphase => ?settle, fun hphase => ?measure⟩
    case fill =>
      have htake := LeakAnalyzer.take_fill (f := f) (p := p) hphase
      refine ⟨fun hover => hends (htake.trans (LeakAnalyzer.takeFill_over hover)),
        fun hbound hout => hgoes (htake.trans (LeakAnalyzer.takeFill_outside hbound hout)),
        fun hbound hlow hhigh => ?_⟩
      have hwithin := htake.trans (LeakAnalyzer.takeFill_within hbound hlow hhigh)
      exact ⟨fun htime => hgoes (hwithin.trans (congrArg _ (LeakAnalyzer.beginSettle_settles htime))),
        fun htime => hgoes (hwithin.trans (congrArg _ (LeakAnalyzer.beginSettle_measures htime)))⟩
    case settle =>
      have htake := LeakAnalyzer.take_settle (f := f) (p := p) hphase
      exact ⟨fun hover => hends (htake.trans (LeakAnalyzer.takeSettle_over hover)), fun hdrop => hends (htake.trans
          (LeakAnalyzer.takeSettle_gross (by omega) hdrop)),
        fun hbound hdrop => hgoes (htake.trans (LeakAnalyzer.takeSettle_goesOn hbound hdrop))⟩
    case measure =>
      have htake := LeakAnalyzer.take_measure (f := f) (p := p) hphase
      refine ⟨fun hruns hnone => hgoes (htake.trans (LeakAnalyzer.takeMeasure_start hruns hnone)),
        fun hruns hsome => hgoes (htake.trans (LeakAnalyzer.takeMeasure_watch hruns hsome)), fun hexpired => ?_⟩
      exact (hevaluates (htake.trans (LeakAnalyzer.takeMeasure_end hexpired))).trans
        (congrArg _ (State.beginLeakEvaluation_bound hb _))

end Sys2Proof.Machine
end
